-- ==== Sys2Proof/Word.lean ====
section
/-! DEFINITION. The bit-vector widths of the block (spec/00_scope.md R4, spec/30_encoding.md R60, R61)
and the bounded pin type (spec/40_pin_codec.md R80). -/

namespace Sys2Proof

/-- One location of a backend space (20_memory.md R40). -/
abbrev Byte := BitVec 8

/-- The container of one encoded row of the operation map: DW in its low 6 bits or SQ in its low 5. -/
abbrev Word := BitVec 8

/-- A Pin Bitmask, format PM: bit `p - 1` belongs to pin `p` (30_encoding.md R61). -/
abbrev Mask := BitVec 160

/-- A 20-bit backend address (R4, ADDR_BITS). -/
abbrev Addr := BitVec 20

/-- A 16-bit data value (R4, DATA_BITS). -/
abbrev Data := BitVec 16

/-- The decode word DW (30_encoding.md R66). -/
abbrev DecodeWord := BitVec 6

/-- A pin, held as its bit position: the spec's pin number `p` (1 to 160) is the value `p - 1`.
The type is bounded, so a pin number outside 1..160 cannot be written (40_pin_codec.md R80). -/
abbrev Pin := Fin 160

/-- The spec's number of a pin, 1 to 160. -/
def Pin.number (p : Pin) : Nat := p.val + 1

/-- The pin the spec numbers `n`, 1 to 160: 0 and 161 are refused by the type (R80). -/
def Pin.of (n : Nat) (h : 1 ≤ n ∧ n ≤ 160 := by decide) : Pin := ⟨n - 1, by omega⟩

/-- A level as a bit: 1 is high (00_scope.md R7). -/
def levelBit (b : Bool) : BitVec 1 := BitVec.ofBool b

end Sys2Proof
end

