-- ==== Sys2Proof/Config.lean ====
section
/-! DEFINITION. What is fixed for one block before a run: signal roles (spec/10_state.md R28), the pin
map and the parameters (R27, spec/00_scope.md R5, spec/92_eei_decisions.md section 1), and the free
values the spec leaves to the environment. The parameters are data: the machine's state carries one
`Config`, and statements range over every well-formed one (log 2). -/

namespace Sys2Proof

/-- Signal roles, a closed type (00_scope.md R9, 10_state.md R28). `ad n` is the spec's ADn. `other p`
is a control line behind the source's "~15" and "etc.", which has no name (91_not_in_source.md N2): it
is known by its pin alone, and only a platform that adds it to ALWAYS_DRIVEN makes use of it
(70_reset_and_hazards.md R192; log 23, DESIGN CHOICE). -/
inductive Role where
  | ad (n : Fin 20)
  | clk | reset | ready | bhe | rd | wr | mio | ale | modeSelect | hold | hlda | lock
  | other (p : Pin)
  deriving DecidableEq, Repr

/-- The address/data positions 0..19 in order. -/
def adIndex : List (Fin 20) :=
  [0, 1, 2, 3, 4, 5, 6, 7, 8, 9, 10, 11, 12, 13, 14, 15, 16, 17, 18, 19]

/-- The positions below 16: the roles that carry data (30_encoding.md R63). -/
def dataIndex : List (Fin 20) := [0, 1, 2, 3, 4, 5, 6, 7, 8, 9, 10, 11, 12, 13, 14, 15]

/-- The named control roles of 10_state.md R28. -/
def controlRoles : List Role :=
  [.clk, .reset, .ready, .bhe, .rd, .wr, .mio, .ale, .modeSelect, .hold, .hlda, .lock]

/-- Every named role. -/
def Role.all : List Role := adIndex.map Role.ad ++ controlRoles

/-- The roles the block only samples besides the address/data lines (10_state.md R17, R28). -/
def sampledRoles : List Role := [.ale, .rd, .wr, .mio, .bhe]

/-- PINMAP: one pin for every named role (10_state.md R27). -/
structure PinMap where
  ad : Vector Pin 20
  clk : Pin
  reset : Pin
  ready : Pin
  bhe : Pin
  rd : Pin
  wr : Pin
  mio : Pin
  ale : Pin
  modeSelect : Pin
  hold : Pin
  hlda : Pin
  lock : Pin
  deriving DecidableEq, Repr

/-- `pin(ROLE)`. An unnamed role carries its pin (log 23). -/
def PinMap.pin (m : PinMap) : Role → Pin
  | .ad n => m.ad[n.val]
  | .clk => m.clk
  | .reset => m.reset
  | .ready => m.ready
  | .bhe => m.bhe
  | .rd => m.rd
  | .wr => m.wr
  | .mio => m.mio
  | .ale => m.ale
  | .modeSelect => m.modeSelect
  | .hold => m.hold
  | .hlda => m.hlda
  | .lock => m.lock
  | .other p => p

/-- UB_READ_SHIFT, whose only values are 0 and 8 (92_eei_decisions.md section 1, D12). -/
inductive UbReadShift where
  | by0
  | by8
  deriving DecidableEq, Repr

/-- The supply level. Its type and unit are not in the source (91_not_in_source.md N6): a bare
number that no rule computes with (log 3, DESIGN CHOICE). -/
abbrev SupplyLevel := Nat

/-- The parameters of rule R5, immutable during a run (10_state.md R27, 70_reset_and_hazards.md R183). -/
structure Config where
  pins : PinMap
  alwaysHigh : List Role
  alwaysDriven : List Role
  resetCycles : Nat
  aleActiveLevel : Bool
  mioMemoryLevel : Bool
  ubReadShift : UbReadShift
  vlevel : SupplyLevel
  vccMask : Mask
  gndMask : Mask
  deriving DecidableEq, Repr

/-- The roles a configuration binds: the named ones, and the unnamed ones among ALWAYS_DRIVEN, which
contains ALWAYS_HIGH (10_state.md R28, 70_reset_and_hazards.md R192). -/
def Config.roles (c : Config) : List Role := Role.all ++ c.alwaysDriven

/-- FREE VALUE: the levels of the released pins at the n-th pad event for which the state lists no
environment record. Nothing constrains it (10_state.md R31, R32; 93 U7, U8, U10; log 5). -/
opaque Config.freeLevels : Nat → Mask

/-- FREE VALUE: the supply level of the configuration in the reset state, which 92_eei_decisions.md
D20 keeps symbolic (log 3). -/
opaque Config.launchVlevel : SupplyLevel

/-- REFMAP, the reference pin map of 30_encoding.md R65. It is the spec's map for worked examples and
no claim about a board; the reset state carries it (log 2, DESIGN CHOICE). -/
def refPins : PinMap where
  ad := #v[.of 16, .of 15, .of 14, .of 13, .of 12, .of 11, .of 10, .of 9, .of 8, .of 7,
    .of 6, .of 5, .of 4, .of 3, .of 2, .of 39, .of 38, .of 37, .of 36, .of 35]
  clk := .of 19
  reset := .of 21
  ready := .of 22
  bhe := .of 34
  rd := .of 32
  wr := .of 29
  mio := .of 28
  ale := .of 25
  modeSelect := .of 33
  hold := .of 31
  hlda := .of 30
  lock := .of 29

/-- REFMAP with every parameter at the default of 92_eei_decisions.md section 1. -/
def refConfig : Config where
  pins := refPins
  alwaysHigh := [.modeSelect, .ready]
  alwaysDriven := [.clk, .reset, .modeSelect, .ready]
  resetCycles := 4
  aleActiveLevel := true
  mioMemoryLevel := true
  ubReadShift := .by0
  vlevel := Config.launchVlevel
  vccMask := 0x8000000000
  gndMask := 0x80001

end Sys2Proof
end

