-- ==== Sys2Proof/Syntax.lean ====
section
/-! DEFINITION. The closed enumerations of spec/00_scope.md R9, the 24 values of SEQ
(spec/10_state.md R12) and `Instr`: one constructor per row of spec/opcode_table.json. -/

namespace Sys2Proof

/-- Direction of a bus cycle (R4). -/
inductive Direction where
  | read
  | write
  deriving DecidableEq, Repr

/-- The two backend spaces (R4, 20_memory.md R40). -/
inductive Space where
  | memory
  | io
  deriving DecidableEq, Repr

/-- The three widths (R4). -/
inductive Width where
  | word
  | upperByte
  | lowerByte
  deriving DecidableEq, Repr

/-- The values of the sequencer state register SEQ (10_state.md R12). Codes 24 to 31 have no
constructor (10_state.md R11, 93 U13). -/
inductive Seq where
  | sOff | sRs1 | sRs2 | sRs3 | sRs4A | sRs4L | sRs4H | sRs5A | sRs5L | sRs5H
  | sIdle | sILow | sIHigh | sALow | sAHigh
  | sRdReq | sRdLow | sRdHigh | sRdRel
  | sWrCap | sWrLow | sWrHigh
  | sStopped | sErr
  deriving DecidableEq, Repr

/-- The operation map. The first 17 constructors are the rows of format DW (30_encoding.md R68), each
one whole engine tick; the other 24 are the rows of format SQ (10_state.md R12), each the action of
one SEQ value. The rows IDLE and ERR.* leave bits of DW free: those bits are the operand. -/
inductive Instr where
  /-- IDLE, `0xxxxx` (R122); `low` are the five bits an idle tick never samples. -/
  | idle (low : BitVec 5)
  | rdMW | rdMUB | rdMLB | rdIoW | rdIoUB | rdIoLB
  | wrMW | wrMUB | wrMLB | wrIoW | wrIoUB | wrIoLB
  /-- ERR.DIR.NONE, `111xxx` (R123); `rest` is MIO, BHE, A0. -/
  | errDirNone (rest : BitVec 3)
  /-- ERR.DIR.BOTH, `100xxx` (R124); `rest` is MIO, BHE, A0. -/
  | errDirBoth (rest : BitVec 3)
  /-- ERR.WIDTH.RD, `101x11` (R125); `mio` is MIO. -/
  | errWidthRd (mio : BitVec 1)
  /-- ERR.WIDTH.WR, `110x11` (R125); `mio` is MIO. -/
  | errWidthWr (mio : BitVec 1)
  | sOff | sRs1 | sRs2 | sRs3 | sRs4A | sRs4L | sRs4H | sRs5A | sRs5L | sRs5H
  | sIdle | sILow | sIHigh | sALow | sAHigh
  | sRdReq | sRdLow | sRdHigh | sRdRel
  | sWrCap | sWrLow | sWrHigh
  | sStopped | sErr
  deriving DecidableEq, Repr

/-- The two packed formats of 30_encoding.md R60 that name an operation. -/
inductive Format where
  | dw
  | sq
  deriving DecidableEq, Repr

/-- Why the decoder rejects a word. -/
inductive Reject where
  /-- A DW byte with bit 7 or 6 set: DW has six bits (30_encoding.md R66). -/
  | dwTooWide
  /-- An SQ byte with one of bits 7..5 set: SQ has five bits (30_encoding.md R60). -/
  | sqTooWide
  /-- SQ codes 24 to 31 (10_state.md R11). -/
  | reservedSeqCode
  /-- No row of the DW table matches; 30_encoding.md R68 says this never happens. -/
  | noRow
  deriving DecidableEq, Repr

end Sys2Proof
end

