-- ==== Sys2Proof/WellFormed.lean ====
section
/-! DEFINITION. The configuration check (spec/10_state.md R27, R17; spec/42_reset_sequencer.md R106;
spec/41_adapter_ops.md R95; spec/93_implementation_defined.md U15: `refuse` at configuration) and the
check on instructions, whose operands their types already bound. -/

namespace Sys2Proof

/-- WR and LOCK, the one documented duplicate binding (10_state.md R27, 90_conflicts.md C9). -/
def duplicatePair (r q : Role) : Bool :=
  (r == .wr && q == .lock) || (r == .lock && q == .wr)

/-- `pin(r1) ≠ pin(r2)` for all distinct roles but the pair WR, LOCK (R27), unnamed roles included. -/
def Config.injectiveOk (c : Config) : Bool :=
  c.roles.all fun r => c.roles.all fun q =>
    r == q || duplicatePair r q || c.pins.pin r != c.pins.pin q

/-- No signal role on a supply or ground pin (R27). -/
def Config.rolesOffSupply (c : Config) : Bool :=
  c.roles.all fun r =>
    !c.vccMask.getLsbD (c.pins.pin r).val && !c.gndMask.getLsbD (c.pins.pin r).val

/-- VCC_MASK and GND_MASK are disjoint (41_adapter_ops.md R95). -/
def Config.supplyDisjoint (c : Config) : Bool := c.vccMask &&& c.gndMask == 0

/-- RESET_CYCLES is at least 4 (42_reset_sequencer.md R106). -/
def Config.resetCyclesOk (c : Config) : Bool := decide (4 ≤ c.resetCycles)

/-- ALWAYS_HIGH contains MODE_SELECT and READY (00_scope.md R5). -/
def Config.alwaysHighOk (c : Config) : Bool :=
  c.alwaysHigh.contains .modeSelect && c.alwaysHigh.contains .ready

/-- ALWAYS_DRIVEN contains ALWAYS_HIGH, CLK and RESET (00_scope.md R5, 10_state.md R17). -/
def Config.alwaysDrivenOk (c : Config) : Bool :=
  c.alwaysHigh.all (fun r => c.alwaysDriven.contains r) &&
    c.alwaysDriven.contains .clk && c.alwaysDriven.contains .reset

/-- No always-driven pin is the pin of an address/data role or of a sampled role (R17, U15). It is
said of pins, so it also refuses LOCK there when LOCK is WR's pin (log 11, DEDUCED). -/
def Config.drivenNotSampled (c : Config) : Bool :=
  c.alwaysDriven.all fun r =>
    (adIndex.map Role.ad ++ sampledRoles).all fun q => c.pins.pin r != c.pins.pin q

/-- CLK and RESET are not held high: the block moves both (10_state.md R28; log 11, DEDUCED). -/
def Config.clockResetFree (c : Config) : Bool :=
  !c.alwaysHigh.contains .clk && !c.alwaysHigh.contains .reset

/-- The configuration check: a configuration that fails it has no run (93 U15). -/
def Config.wf (c : Config) : Bool :=
  c.injectiveOk && c.rolesOffSupply && c.supplyDisjoint && c.resetCyclesOk &&
    c.alwaysHighOk && c.alwaysDrivenOk && c.drivenNotSampled && c.clockResetFree

/-- Every term of `Instr` is well formed: the widths of its operands are in their types. -/
def Instr.wf : Instr → Bool
  | _ => true

end Sys2Proof
end

