-- ==== Sys2Proof/Machine/Codec.lean ====
section
/-! DEFINITION. The pin codec (spec/40_pin_codec.md R80 to R88) and the masks derived from the
parameters (spec/10_state.md R17, R27; spec/30_encoding.md R65, R71). Pure functions of their argument
and the configuration (R88). -/

namespace Sys2Proof

/-- `pinBit(p)` (R80). -/
def pinBit (p : Pin) : Mask := BitVec.twoPow 160 p.val

/-- `pinsBitmask(p1, ..., pk)` (R81): the OR of each; the empty collection gives 0. -/
def pinsBitmask (ps : List Pin) : Mask := ps.foldr (fun p m => pinBit p ||| m) 0

/-- `lvl(m, ROLE)` (00_scope.md section 5). -/
def Config.lvl (c : Config) (m : Mask) (r : Role) : Bool := m.getLsbD (c.pins.pin r).val

/-- `bit(ROLE)`. -/
def Config.bit (c : Config) (r : Role) : Mask := pinBit (c.pins.pin r)

/-- The mask of a set of roles. -/
def Config.roleMask (c : Config) (rs : List Role) : Mask := pinsBitmask (rs.map c.pins.pin)

/-- Assemble a value from the levels of the address/data roles at the given positions (R82, R83). -/
def Config.gather (c : Config) (w : Nat) (m : Mask) (ns : List (Fin 20)) : BitVec w :=
  ns.foldr (fun n v => (if c.lvl m (.ad n) then BitVec.twoPow w n.val else 0) ||| v) 0

/-- `decodeAddress(m)` (R82, 30_encoding.md R62). -/
def Config.decodeAddress (c : Config) (m : Mask) : Addr := c.gather 20 m adIndex

/-- `decodeData(m)` (R83, 30_encoding.md R63). -/
def Config.decodeData (c : Config) (m : Mask) : Data := c.gather 16 m dataIndex

/-- `encodeDataToPins(v)` (R84): the pins of the data roles whose bit is set. -/
def Config.encodeDataToPins (c : Config) (v : Data) : List Pin :=
  (dataIndex.filter fun n => v.getLsbD n.val).map fun n => c.pins.pin (.ad n)

/-- `dataMask(v)` (R85). -/
def Config.dataMask (c : Config) (v : Data) : Mask := pinsBitmask (c.encodeDataToPins v)

/-- `addrMask(a)` (R86): the pins of the address roles whose bit is set. The block never drives it. -/
def Config.addrMask (c : Config) (a : Addr) : Mask :=
  pinsBitmask ((adIndex.filter fun n => a.getLsbD n.val).map fun n => c.pins.pin (.ad n))

/-- AH, the mask of the always-high pins (00_scope.md section 6). -/
def Config.ah (c : Config) : Mask := c.roleMask c.alwaysHigh

/-- TRI_DEFAULT (10_state.md R17). -/
def Config.triDefault (c : Config) : Mask := ~~~ c.roleMask c.alwaysDriven

/-- DATA16, the pins of AD0..AD15. -/
def Config.data16 (c : Config) : Mask := c.roleMask (dataIndex.map Role.ad)

/-- AD20, the pins of AD0..AD19. -/
def Config.ad20 (c : Config) : Mask := c.roleMask (adIndex.map Role.ad)

/-- TRI_READ, the tri-state set while a read drives its data (30_encoding.md R71). -/
def Config.triRead (c : Config) : Mask := c.triDefault &&& ~~~ c.data16

/-- The OUT value with the clock low: the always-high pins alone. -/
def Config.clkLow (c : Config) : Mask := c.ah

/-- The OUT value with the clock high (`AH | bit(CLK)`). -/
def Config.clkHigh (c : Config) : Mask := c.ah ||| c.bit .clk

end Sys2Proof
end

