-- ==== Sys2Proof/Decode.lean ====
section
/-! DEFINITION. Decoding and encoding of the operation map: format DW by the match/mask table of
spec/30_encoding.md R68, format SQ by the codes of spec/10_state.md R12. -/

namespace Sys2Proof

/-- The code of a SEQ value (10_state.md R12). -/
def Seq.code : Seq → BitVec 5
  | .sOff => 0
  | .sRs1 => 1
  | .sRs2 => 2
  | .sRs3 => 3
  | .sRs4A => 4
  | .sRs4L => 5
  | .sRs4H => 6
  | .sRs5A => 7
  | .sRs5L => 8
  | .sRs5H => 9
  | .sIdle => 10
  | .sILow => 11
  | .sIHigh => 12
  | .sALow => 13
  | .sAHigh => 14
  | .sRdReq => 15
  | .sRdLow => 16
  | .sRdHigh => 17
  | .sRdRel => 18
  | .sWrCap => 19
  | .sWrLow => 20
  | .sWrHigh => 21
  | .sStopped => 22
  | .sErr => 23

/-- Every SEQ value, in the order of its code. -/
def Seq.all : List Seq :=
  [.sOff, .sRs1, .sRs2, .sRs3, .sRs4A, .sRs4L, .sRs4H, .sRs5A, .sRs5L, .sRs5H, .sIdle, .sILow,
    .sIHigh, .sALow, .sAHigh, .sRdReq, .sRdLow, .sRdHigh, .sRdRel, .sWrCap, .sWrLow, .sWrHigh,
    .sStopped, .sErr]

/-- The SEQ value of a code; codes 24 to 31 have none (10_state.md R11). -/
def Seq.ofCode (c : BitVec 5) : Option Seq := Seq.all[c.toNat]?

/-- The operation whose action a SEQ value names. -/
def Seq.instr : Seq → Instr
  | .sOff => .sOff
  | .sRs1 => .sRs1
  | .sRs2 => .sRs2
  | .sRs3 => .sRs3
  | .sRs4A => .sRs4A
  | .sRs4L => .sRs4L
  | .sRs4H => .sRs4H
  | .sRs5A => .sRs5A
  | .sRs5L => .sRs5L
  | .sRs5H => .sRs5H
  | .sIdle => .sIdle
  | .sILow => .sILow
  | .sIHigh => .sIHigh
  | .sALow => .sALow
  | .sAHigh => .sAHigh
  | .sRdReq => .sRdReq
  | .sRdLow => .sRdLow
  | .sRdHigh => .sRdHigh
  | .sRdRel => .sRdRel
  | .sWrCap => .sWrCap
  | .sWrLow => .sWrLow
  | .sWrHigh => .sWrHigh
  | .sStopped => .sStopped
  | .sErr => .sErr

/-- One row of the DW table: the row selects `d` when `d &&& mask = pattern` (R68). -/
structure DwRow where
  pattern : DecodeWord
  mask : DecodeWord
  build : DecodeWord → Instr

/-- The 17 rows of R68, in the order of the table. -/
def dwTable : List DwRow :=
  [⟨0x00, 0x20, fun d => .idle (d.extractLsb' 0 5)⟩,
    ⟨0x2C, 0x3F, fun _ => .rdMW⟩, ⟨0x2D, 0x3F, fun _ => .rdMUB⟩, ⟨0x2E, 0x3F, fun _ => .rdMLB⟩,
    ⟨0x28, 0x3F, fun _ => .rdIoW⟩, ⟨0x29, 0x3F, fun _ => .rdIoUB⟩, ⟨0x2A, 0x3F, fun _ => .rdIoLB⟩] ++
  [⟨0x34, 0x3F, fun _ => .wrMW⟩, ⟨0x35, 0x3F, fun _ => .wrMUB⟩, ⟨0x36, 0x3F, fun _ => .wrMLB⟩,
    ⟨0x30, 0x3F, fun _ => .wrIoW⟩, ⟨0x31, 0x3F, fun _ => .wrIoUB⟩, ⟨0x32, 0x3F, fun _ => .wrIoLB⟩] ++
  [⟨0x38, 0x38, fun d => .errDirNone (d.extractLsb' 0 3)⟩,
    ⟨0x20, 0x38, fun d => .errDirBoth (d.extractLsb' 0 3)⟩,
    ⟨0x2B, 0x3B, fun d => .errWidthRd (d.extractLsb' 2 1)⟩,
    ⟨0x33, 0x3B, fun d => .errWidthWr (d.extractLsb' 2 1)⟩]

/-- Does a row select a decode word? -/
def DwRow.selects (r : DwRow) (d : DecodeWord) : Bool := d &&& r.mask == r.pattern

/-- The operation a decode word selects (R68, R69). -/
def decodeDw (d : DecodeWord) : Except Reject Instr :=
  match dwTable.find? (·.selects d) with
  | some r => .ok (r.build d)
  | none => .error .noRow

/-- The operation an SQ code selects. -/
def decodeSq (c : BitVec 5) : Except Reject Instr :=
  match Seq.ofCode c with
  | some q => .ok q.instr
  | none => .error .reservedSeqCode

/-- The decoder, total on every byte of either format. -/
def decode (f : Format) (w : Word) : Except Reject Instr :=
  match f with
  | .dw => if w.toNat < 64 then decodeDw (w.setWidth 6) else .error .dwTooWide
  | .sq => if w.toNat < 32 then decodeSq (w.setWidth 5) else .error .sqTooWide

/-- The byte that holds a decode word. -/
def dwWord (d : DecodeWord) : Word := d.setWidth 8

/-- The byte that holds a SEQ code. -/
def sqWord (q : Seq) : Word := q.code.setWidth 8

/-- The encoder: format and byte of each operation, from R68 and R12. -/
def encode : Instr → Format × Word
  | .idle low => (.dw, dwWord (0#1 ++ low))
  | .rdMW => (.dw, 0x2C)
  | .rdMUB => (.dw, 0x2D)
  | .rdMLB => (.dw, 0x2E)
  | .rdIoW => (.dw, 0x28)
  | .rdIoUB => (.dw, 0x29)
  | .rdIoLB => (.dw, 0x2A)
  | .wrMW => (.dw, 0x34)
  | .wrMUB => (.dw, 0x35)
  | .wrMLB => (.dw, 0x36)
  | .wrIoW => (.dw, 0x30)
  | .wrIoUB => (.dw, 0x31)
  | .wrIoLB => (.dw, 0x32)
  | .errDirNone rest => (.dw, dwWord (0b111#3 ++ rest))
  | .errDirBoth rest => (.dw, dwWord (0b100#3 ++ rest))
  | .errWidthRd mio => (.dw, dwWord (0b101#3 ++ mio ++ 0b11#2))
  | .errWidthWr mio => (.dw, dwWord (0b110#3 ++ mio ++ 0b11#2))
  | .sOff => (.sq, 0)
  | .sRs1 => (.sq, 1)
  | .sRs2 => (.sq, 2)
  | .sRs3 => (.sq, 3)
  | .sRs4A => (.sq, 4)
  | .sRs4L => (.sq, 5)
  | .sRs4H => (.sq, 6)
  | .sRs5A => (.sq, 7)
  | .sRs5L => (.sq, 8)
  | .sRs5H => (.sq, 9)
  | .sIdle => (.sq, 10)
  | .sILow => (.sq, 11)
  | .sIHigh => (.sq, 12)
  | .sALow => (.sq, 13)
  | .sAHigh => (.sq, 14)
  | .sRdReq => (.sq, 15)
  | .sRdLow => (.sq, 16)
  | .sRdHigh => (.sq, 17)
  | .sRdRel => (.sq, 18)
  | .sWrCap => (.sq, 19)
  | .sWrLow => (.sq, 20)
  | .sWrHigh => (.sq, 21)
  | .sStopped => (.sq, 22)
  | .sErr => (.sq, 23)

/-- The format of a word that the operation table numbers without saying which of its two formats it
is in. A 5-bit word is SQ and a 6-bit word is DW; a word given in whole bytes is SQ when its value is
one of the 24 SEQ codes and DW otherwise (log 12, DESIGN CHOICE: the two formats overlap only in rows
SQ and IDLE). -/
def tableFormat (nbits w : Nat) : Format :=
  if nbits = 5 then .sq
  else if nbits = 6 then .dw
  else if w < 24 then .sq
  else .dw

/-- The operation the decoder reads from a table word; none where it rejects. -/
def decodeTableWord (nbits w : Nat) : Option Instr :=
  if w < 256 then
    match decode (tableFormat nbits w) (BitVec.ofNat 8 w) with
    | .ok i => some i
    | .error _ => none
  else none

end Sys2Proof
end

