-- ==== Sys2Proof/Machine/State.lean ====
section
/-! DEFINITION. The state of the machine as plain data: the registers of spec/10_state.md R10, what an
observer sees of a run (R30, spec/60_exceptions.md R175), the reference backend's stores
(spec/20_memory.md R46), the parameters (R27) and the inputs of the three environments (R31, R25,
spec/20_memory.md R48); the reasons a step can stop; the state after the block's reset (R33). -/

namespace Sys2Proof.Machine

/-- The cause held in ERR (60_exceptions.md R160); `none` is code 0. -/
inductive Err where
  | none
  | dirNone
  | dirBoth
  | width
  | contractViolation
  | adapterIo
  deriving DecidableEq, Repr

/-- ERRINFO (60_exceptions.md R160, last column): nothing, a decode word, or the offending value. -/
inductive ErrInfo where
  | none
  | dw (d : DecodeWord)
  | value (v : Nat)
  deriving DecidableEq, Repr

/-- The reason of a `Halt` event (10_state.md R30). -/
inductive HaltReason where
  | stop
  | error (e : Err)
  deriving DecidableEq, Repr

/-- The events of the history (10_state.md R30). A read's answer is a natural number, so that a backend
with an unbounded answer has a place (20_memory.md R44, 60_exceptions.md R162). -/
inductive Event where
  | init
  | power (level : SupplyLevel) (vcc gnd : Mask)
  | drive (out tri : Mask)
  | sample (v : Mask)
  | read (sp : Space) (a : Addr) (w : Width) (v : Nat)
  | write (sp : Space) (a : Addr) (v : Data) (w : Width)
  | halt (r : HaltReason)
  deriving DecidableEq, Repr

/-- LATCH, the bus-cycle record (10_state.md R19, format BC of 30_encoding.md R60). -/
structure Latch where
  addr : Addr
  dir : Direction
  space : Space
  width : Width
  deriving DecidableEq, Repr

/-- The three record kinds of the trace port (60_exceptions.md R175, 44_transfer_executor.md R153). -/
inductive TraceRecord where
  | transfer (ticks : Nat) (latch : Latch) (data : Data)
  | error (err : Err) (info : ErrInfo)
  | overDrive (tri : Mask)
  deriving DecidableEq, Repr

/-- What the environment does at one pad event: whether the primitive fails (41_adapter_ops.md R97),
the level of every pin the block releases (R92), and the pins the processor drives (R96). -/
structure PadEnv where
  fails : Bool
  levels : Mask
  drives : Mask
  deriving DecidableEq, Repr

/-- What the backend does with one request: behave as the reference backend (20_memory.md R46, R47);
behave otherwise, answering `v` to a read and completing a write without effect on the model's stores
(R44, R45, R48); or never answer (70_reset_and_hazards.md R189). One answer belongs to one request: a
`silent` one is used up by the request it leaves hanging (log 8). -/
inductive Answer where
  | reference
  | other (v : Nat)
  | silent
  deriving DecidableEq, Repr

/-- What the host does between two steps (10_state.md R13, R25; 70_reset_and_hazards.md R180, R183). -/
inductive HostAct where
  | nothing
  | writeStopReq (b : Bool)
  | writeStart (b : Bool)
  | writeTickLimit (n : Option Nat)
  | writeVerbose (b : Bool)
  | configure (c : Config)
  | blockReset
  deriving DecidableEq, Repr

/-- The two units of 10_state.md R13: the action of one SEQ value, or one whole tick. -/
inductive StepUnit where
  | micro
  | tick
  deriving DecidableEq, Repr

/-- A backend store: (address, byte) pairs, addresses strictly rising, no byte equal to the 0 that an
unlisted address reads as (20_memory.md R46). -/
abbrev Memory := List Host.Cell

/-- Why a step stops with a fault. -/
inductive Fault where
  /-- Raised by a pad event at which the processor drives a pin that the block drives, at the opposite
  level: the spec's fault of the environment premise, outside every claim (41_adapter_ops.md R96,
  70_reset_and_hazards.md R187, 93 U9). Safe. -/
  | contention
  /-- Raised by a step from a state that waits for a backend that never answers: the spec's stuck state
  (70_reset_and_hazards.md R189, 93 U6). Safe. -/
  | backendSilent
  /-- Raised by the reference backend when a Word request at address 0xFFFFF would need the byte at
  2^20, which does not exist; no cycle decodes to it (20_memory.md R41, R42). Safe. -/
  | addressOutside
  deriving DecidableEq, Repr

/-- Why a step is refused. -/
inductive Refusal where
  /-- An operation without a meaning yet, by its mnemonic; raised by an arm of exec only. Safe. -/
  | notModelled (mnemonic : String)
  /-- Raised by S_OFF with START = 1 when the configuration check fails: no run exists
  (93 U15, 42_reset_sequencer.md R106). Safe. -/
  | configRefused
  /-- Raised by a host write that only a block outside a run accepts (70_reset_and_hazards.md R183,
  93 U23). Safe. -/
  | hostWriteRefused
  /-- Raised by step if the fetched word decoded to nothing; SEQ has no such value (93 U13). Safe. -/
  | badWord
  deriving DecidableEq, Repr

/-- The whole state. -/
structure State where
  /-- SEQ (R11). -/
  seq : Seq
  /-- OUT (R14). -/
  out : Mask
  /-- TRI (R15). -/
  tri : Mask
  /-- S1, S2, S3 (R18). -/
  s1 : Mask
  s2 : Mask
  s3 : Mask
  /-- LATCH (R19). -/
  latch : Latch
  /-- DATA (R20). -/
  data : Data
  /-- RCNT (R21). -/
  rcnt : Nat
  /-- TICKS (R22). -/
  ticks : Nat
  /-- ERR and ERRINFO (R23). -/
  err : Err
  errInfo : ErrInfo
  /-- START, STOP_REQ, TICK_LIMIT (`none` is unbounded), VERBOSE (R25). -/
  start : Bool
  stopReq : Bool
  tickLimit : Option Nat
  verbose : Bool
  /-- VLEVEL_R, VCC_R, GND_R, SUPPLY_EN (R26). -/
  vlevelR : SupplyLevel
  vccR : Mask
  gndR : Mask
  supplyEn : Bool
  /-- The event history, oldest first (R30). -/
  events : List Event
  /-- What the trace port has written, oldest first (60_exceptions.md R175). -/
  trace : List TraceRecord
  /-- The reference backend's two stores (20_memory.md R46). -/
  mem : Memory
  io : Memory
  /-- The parameters (R27). -/
  cfg : Config
  /-- MODEL: environment records to come, one per pad event (log 5). -/
  env : List PadEnv
  /-- MODEL: how many pad events there were; indexes the free values (log 5). -/
  draws : Nat
  /-- MODEL: backend answers to come, one per request (log 8). -/
  answers : List Answer
  /-- MODEL: host acts to come, one before each step (log 10). -/
  host : List HostAct
  /-- MODEL: a request is out and the backend does not answer (log 8). -/
  waiting : Bool
  /-- MODEL: the unit of a step (R13, log 1). -/
  unit : StepUnit
  deriving DecidableEq, Repr

/-- The state after the block's own reset (10_state.md R33): every pin released, supply off. R33 gives
S1, S2, S3, LATCH, DATA and VLEVEL_R no value: they hold zero (log 3, log 4, DESIGN CHOICE). -/
def State.reset : State where
  seq := .sOff
  out := 0
  tri := BitVec.allOnes 160
  s1 := 0
  s2 := 0
  s3 := 0
  latch := ⟨0, .read, .memory, .word⟩
  data := 0
  rcnt := 0
  ticks := 0
  err := .none
  errInfo := .none
  start := false
  stopReq := false
  tickLimit := none
  verbose := false
  vlevelR := 0
  vccR := 0
  gndR := 0
  supplyEn := false
  events := []
  trace := []
  mem := []
  io := []
  cfg := refConfig
  env := []
  draws := 0
  answers := []
  host := []
  waiting := false
  unit := .micro

end Sys2Proof.Machine
end

