-- ==== Sys2Proof/Machine/Operands.lean ====
section
/-! DEFINITION. The operand forms of a bus cycle: the decode word (spec/30_encoding.md R64, R66, R67),
the direction, space and width decodes (spec/43_bus_cycle_engine.md R118 to R120, R126), the value a
read drives (spec/44_transfer_executor.md R135), and the level of a pin (spec/10_state.md R16). -/

namespace Sys2Proof

/-- UB_READ_SHIFT as a number. -/
def UbReadShift.amount : UbReadShift → Nat
  | .by0 => 0
  | .by8 => 8

end Sys2Proof

namespace Sys2Proof.Machine

/-- Is ALE asserted in a sample? (43 R113, R114; level ALE_ACTIVE_LEVEL.) -/
def aleAsserted (c : Config) (m : Mask) : Bool := c.lvl m .ale == c.aleActiveLevel

/-- DW of an active cycle (30 R66): ALE is 1, RD, WR, MIO, BHE are levels of S2, A0 is bit 0 of the
latched address (30 R64). DW[2] is MIO compared with MIO_MEMORY_LEVEL. -/
def assembleDw (c : Config) (s2 : Mask) (a : Addr) : DecodeWord :=
  1#1 ++ levelBit (c.lvl s2 .rd) ++ levelBit (c.lvl s2 .wr) ++
    levelBit (c.lvl s2 .mio == c.mioMemoryLevel) ++ levelBit (c.lvl s2 .bhe) ++
    levelBit (a.getLsbD 0)

/-- Direction decode from the levels of RD and WR (43 R118). -/
def decodeDirection (rd wr : Bool) : Except Err Direction :=
  match rd, wr with
  | false, true => .ok .read
  | true, false => .ok .write
  | true, true => .error .dirNone
  | false, false => .error .dirBoth

/-- Width decode from the level of BHE and A0 (43 R119). -/
def decodeWidth (bhe a0 : Bool) : Except Err Width :=
  match bhe, a0 with
  | false, false => .ok .word
  | false, true => .ok .upperByte
  | true, false => .ok .lowerByte
  | true, true => .error .width

/-- Space decode from the level of MIO (43 R120). -/
def decodeSpace (c : Config) (mio : Bool) : Space :=
  if mio = c.mioMemoryLevel then .memory else .io

/-- The three decodes in the order of 43 R126: the first failure is the one reported. -/
def decodeCycle (c : Config) (s2 : Mask) (a : Addr) : Except Err (Direction × Space × Width) :=
  match decodeDirection (c.lvl s2 .rd) (c.lvl s2 .wr) with
  | .error e => .error e
  | .ok dir =>
    match decodeWidth (c.lvl s2 .bhe) (a.getLsbD 0) with
    | .error e => .error e
    | .ok w => .ok (dir, decodeSpace c (c.lvl s2 .mio), w)

/-- `readValue(w, r)` (44 R135), on a natural number so that an unbounded answer keeps its value for
the test of 60 R162 (log 16). -/
def readValue (c : Config) (w : Width) (r : Nat) : Nat :=
  match w with
  | .word => r
  | .lowerByte => r
  | .upperByte => r <<< c.ubReadShift.amount

/-- The level the block drives on a pin; `none` when it releases the pin (10_state.md R16). -/
def State.pinOut (s : State) (p : Pin) : Option Bool :=
  if s.tri.getLsbD p.val then none else some (s.out.getLsbD p.val)

/-- What `Sample` returns for the environment levels `e` (41_adapter_ops.md R92). -/
def sampled (out tri e : Mask) : Mask := (out &&& ~~~ tri) ||| (e &&& tri)

/-- Some pin that the block drives is driven by the processor at the opposite level (41 R96). A
processor that drives nothing contends with nothing. -/
def PadEnv.contends (r : PadEnv) (out tri : Mask) : Bool :=
  r.drives != 0 && (r.drives &&& ~~~ tri &&& (r.levels ^^^ out)) != 0

end Sys2Proof.Machine
end

