-- ==== Sys2Proof/Machine/Flags.lean ====
section
/-! DEFINITION. Status of the block: the codes of ERR (spec/60_exceptions.md R160), the run status and
the engine state as functions of SEQ (spec/10_state.md R24, R12), the stop test
(spec/60_exceptions.md R168), the gate of the trace port (R175). The block has no condition codes
(spec/10_state.md R23). -/

namespace Sys2Proof

/-- The run status of 10_state.md R24. -/
inductive RunStatus where
  | off
  | resetting
  | running
  | stopped
  | aborted
  deriving DecidableEq, Repr

/-- The engine states of 10_state.md R12. -/
inductive EngineState where
  | idle
  | active
  deriving DecidableEq, Repr

/-- Run status as a function of SEQ (R24). -/
def Seq.status : Seq → RunStatus
  | .sOff => .off
  | .sRs1 | .sRs2 | .sRs3 | .sRs4A | .sRs4L | .sRs4H | .sRs5A | .sRs5L | .sRs5H => .resetting
  | .sIdle | .sILow | .sIHigh | .sALow | .sAHigh => .running
  | .sRdReq | .sRdLow | .sRdHigh | .sRdRel | .sWrCap | .sWrLow | .sWrHigh => .running
  | .sStopped => .stopped
  | .sErr => .aborted

/-- Engine state of a SEQ value; none outside the engine (R12). -/
def Seq.engine : Seq → Option EngineState
  | .sIdle | .sILow | .sIHigh => some .idle
  | .sALow | .sAHigh | .sRdReq | .sRdLow | .sRdHigh | .sRdRel => some .active
  | .sWrCap | .sWrLow | .sWrHigh => some .active
  | .sOff | .sRs1 | .sRs2 | .sRs3 | .sRs4A | .sRs4L | .sRs4H | .sRs5A | .sRs5L | .sRs5H => none
  | .sStopped | .sErr => none

/-- A run is in progress: the block is resetting the processor or running the engine. -/
def Seq.inRun (q : Seq) : Bool :=
  q.status == .resetting || q.status == .running

/-- The successors that 10_state.md R12 lists for a SEQ value, S_ERR after an AdapterIoError apart. -/
def Seq.successors : Seq → List Seq
  | .sOff => [.sOff, .sRs1]
  | .sRs1 => [.sRs2]
  | .sRs2 => [.sRs3]
  | .sRs3 => [.sRs4A]
  | .sRs4A => [.sRs4L]
  | .sRs4L => [.sRs4H]
  | .sRs4H => [.sRs4L, .sRs5A]
  | .sRs5A => [.sRs5L]
  | .sRs5L => [.sRs5H]
  | .sRs5H => [.sIdle]
  | .sIdle => [.sStopped, .sILow, .sALow]
  | .sILow => [.sIHigh]
  | .sIHigh => [.sIdle]
  | .sALow => [.sAHigh, .sErr]
  | .sAHigh => [.sRdReq, .sWrCap]
  | .sRdReq => [.sRdLow, .sErr]
  | .sRdLow => [.sRdHigh]
  | .sRdHigh => [.sRdRel]
  | .sRdRel => [.sIdle]
  | .sWrCap => [.sWrLow]
  | .sWrLow => [.sWrHigh]
  | .sWrHigh => [.sIdle]
  | .sStopped => [.sStopped]
  | .sErr => [.sErr]

end Sys2Proof

namespace Sys2Proof.Machine

/-- The 3-bit code of a cause (60 R160). -/
def Err.code : Err → BitVec 3
  | .none => 0
  | .dirNone => 1
  | .dirBoth => 2
  | .width => 3
  | .contractViolation => 4
  | .adapterIo => 5

/-- TICKS has reached TICK_LIMIT; an unbounded limit is never reached (60 R168). -/
def limitReached (limit : Option Nat) (ticks : Nat) : Bool :=
  match limit with
  | none => false
  | some n => decide (n ≤ ticks)

/-- The stop test of S_IDLE (60 R168). -/
def State.stopTest (s : State) : Bool := s.stopReq || limitReached s.tickLimit s.ticks

/-- A trace after a record, written only when `v`. -/
def tracedWhen (v : Bool) (l : List TraceRecord) (r : TraceRecord) : List TraceRecord :=
  if v then l ++ [r] else l

/-- The trace after writing `r`, which happens only while VERBOSE is 1 (60 R175). -/
def State.traced (s : State) (r : TraceRecord) : List TraceRecord :=
  tracedWhen s.verbose s.trace r

end Sys2Proof.Machine
end

