-- ==== Sys2Proof/Machine/Memory.lean ====
section
/-! DEFINITION. The reference backend's stores (spec/20_memory.md R40, R41, R46, R47): one byte map per
space, in one canonical form. -/

namespace Sys2Proof.Machine

/-- What an address no entry lists reads as: "Missing addresses in a sparse backend read as 0" (R46). -/
def Memory.unlisted : Byte := 0

/-- Size of a space: 20-bit addresses (R40). -/
def Memory.size : Nat := 2 ^ 20

/-- `byte(st, a)` (R46). -/
def Memory.byte : Memory → Nat → Byte
  | [], _ => Memory.unlisted
  | (k, v) :: m, a => if k = a then v else Memory.byte m a

/-- Put one entry before `m`, unless it holds what an unlisted address reads as. -/
def Memory.cons (a : Nat) (v : Byte) (m : Memory) : Memory :=
  if v = Memory.unlisted then m else (a, v) :: m

/-- Store one byte, keeping the canonical form. -/
def Memory.set : Memory → Nat → Byte → Memory
  | [], a, v => Memory.cons a v []
  | (k, w) :: m, a, v =>
    if a < k then Memory.cons a v ((k, w) :: m)
    else if a = k then Memory.cons a v m
    else (k, w) :: Memory.set m a v

/-- The canonical form from a lower bound on: addresses rising strictly, inside the space, no listed
byte equal to the unlisted one. -/
def Memory.wfFrom : Nat → Memory → Bool
  | _, [] => true
  | lo, (k, v) :: m =>
    decide (lo ≤ k) && decide (k < Memory.size) && v != Memory.unlisted && Memory.wfFrom (k + 1) m

/-- The canonical form of a store. -/
def Memory.wf (m : Memory) : Bool := Memory.wfFrom 0 m

/-- `rd(st, a, w)` (R46), little-endian (R41). None when a Word would need a byte beyond the space. -/
def Memory.read (m : Memory) (a : Addr) (w : Width) : Option Data :=
  match w with
  | .word =>
    if a.toNat + 1 < Memory.size then some (m.byte (a.toNat + 1) ++ m.byte a.toNat) else none
  | .upperByte => some ((m.byte a.toNat).setWidth 16)
  | .lowerByte => some ((m.byte a.toNat).setWidth 16)

/-- The store after a write (R47): both bytes, the lower lane, or the upper lane of `v`. None when a
Word would need a byte beyond the space. -/
def Memory.write (m : Memory) (a : Addr) (v : Data) (w : Width) : Option Memory :=
  match w with
  | .word =>
    if a.toNat + 1 < Memory.size then
      some ((m.set a.toNat (v.extractLsb' 0 8)).set (a.toNat + 1) (v.extractLsb' 8 8))
    else none
  | .lowerByte => some (m.set a.toNat (v.extractLsb' 0 8))
  | .upperByte => some (m.set a.toNat (v.extractLsb' 8 8))

/-- The store of a space. -/
def State.store (s : State) : Space → Memory
  | .memory => s.mem
  | .io => s.io

/-- The state with the store of a space replaced. -/
def State.withStore (s : State) (sp : Space) (m : Memory) : State :=
  match sp with
  | .memory => { s with mem := m }
  | .io => { s with io := m }

end Sys2Proof.Machine
end

