-- ==== Sys2Proof/Machine/Ops.lean ====
section
/-! DEFINITION. The shared operations: the pad primitives Init, Power, Drive, Sample
(spec/41_adapter_ops.md R91 to R97), the backend requests MemRead, MemWrite (spec/20_memory.md R43 to
R48), raising an error (spec/60_exceptions.md R164) and halting on the stop test (R168). There is no
return from an error (R167). -/

namespace Sys2Proof.Machine

/-- How an action ends: it goes on with a value; it is over with a state (an error was raised or the
backend does not answer); or the model stops. -/
inductive Res (α : Type) where
  | goes (a : α) (s : State)
  | ends (s : State)
  | stops (f : Fault)
  deriving DecidableEq, Repr

/-- Do `g` after an action, unless the action ended the step. -/
def Res.andThen {α β : Type} (r : Res α) (g : α → State → Res β) : Res β :=
  match r with
  | .goes a s => g a s
  | .ends s => .ends s
  | .stops f => .stops f

/-- The outcome of a whole step. -/
def Res.outcome (r : Res Unit) : Host.Outcome State Fault Refusal :=
  match r with
  | .goes _ s => .next s
  | .ends s => .next s
  | .stops f => .fault f

/-- Assign the successor to SEQ. -/
def goto (q : Seq) (s : State) : Res Unit := .goes () { s with seq := q }

/-- `emit` (10_state.md R30). -/
def State.emit (s : State) (e : Event) : State := { s with events := s.events ++ [e] }

/-- `raise E(info)` (60 R164): ERR and ERRINFO are set, Halt is emitted, SEQ becomes S_ERR; nothing else
changes but the trace port's error record (60 R175). -/
def raise (e : Err) (info : ErrInfo) (s : State) : State :=
  { s with
    err := e
    errInfo := info
    events := s.events ++ [.halt (.error e)]
    trace := s.traced (.error e info)
    seq := .sErr }

/-- The environment record of a pad event for which the state lists none: no failure, free levels,
nothing driven by the processor (log 5, 6, 7). -/
def PadEnv.free (n : Nat) : PadEnv := ⟨false, Config.freeLevels n, 0⟩

/-- The environment record of the k-th pad event from now on. -/
def State.envAt (s : State) (k : Nat) : PadEnv := (s.env[k]?).getD (PadEnv.free (s.draws + k))

/-- The state after one environment record was taken. -/
def State.tookEnv (s : State) : State := { s with env := s.env.drop 1, draws := s.draws + 1 }

/-- One pad primitive: it fails as a whole (41 R97: AdapterIoError, no retry), or has its effect and
then must not contend with the processor (41 R96). -/
def padEvent (eff : State → State) (s : State) : Res Unit :=
  if (s.envAt 0).fails then .ends (raise .adapterIo .none s.tookEnv)
  else if (s.envAt 0).contends (eff s.tookEnv).out (eff s.tookEnv).tri then .stops .contention
  else .goes () (eff s.tookEnv)

/-- What `Init` does to the pad ring (41 R91): the power-on state of the pad registers. -/
def State.padInit (s : State) : State :=
  { s with out := 0, tri := BitVec.allOnes 160, supplyEn := false, events := s.events ++ [.init] }

/-- What `Drive(out, tri)` does (41 R93): OUT and TRI in one event. -/
def State.padDrive (out tri : Mask) (s : State) : State :=
  { s with out := out, tri := tri, events := s.events ++ [.drive out tri] }

/-- What `Power(level, vcc, gnd)` does (41 R95). -/
def State.padPower (level : SupplyLevel) (vcc gnd : Mask) (s : State) : State :=
  { s with
    vlevelR := level
    vccR := vcc
    gndR := gnd
    supplyEn := true
    events := s.events ++ [.power level vcc gnd] }

/-- Some data pin is driven under `tri` (44 R153). -/
def overDrives (c : Config) (tri : Mask) : Bool := tri &&& c.data16 != c.data16

/-- The trace after a Sample: the over-drive warning of 44 R153 when a data pin is driven then. -/
def State.sampleTrace (s : State) : List TraceRecord :=
  if overDrives s.cfg s.tri then s.traced (.overDrive s.tri) else s.trace

/-- What `Sample()` with the result `v` does besides giving `v` (41 R92). -/
def State.padSample (v : Mask) (s : State) : State :=
  { s with events := s.events ++ [.sample v], trace := s.sampleTrace }

/-- `Init` (41 R91). -/
def init (s : State) : Res Unit := padEvent State.padInit s

/-- `Drive(out, tri)` (41 R93). -/
def drive (out tri : Mask) (s : State) : Res Unit := padEvent (State.padDrive out tri) s

/-- `Power(level, vcc, gnd)` (41 R95). -/
def power (level : SupplyLevel) (vcc gnd : Mask) (s : State) : Res Unit :=
  padEvent (State.padPower level vcc gnd) s

/-- What a Sample at this moment returns (41 R92). -/
def State.sampleNow (s : State) : Mask := sampled s.out s.tri (s.envAt 0).levels

/-- `Sample()` (41 R92): reads every pin and emits the value; the caller stores it. -/
def sample (s : State) : Res Mask :=
  (padEvent (State.padSample s.sampleNow) s).andThen fun _ t => .goes s.sampleNow t

/-- What the backend does with the next request: the script, then the reference backend (log 8). -/
def State.answerNow (s : State) : Answer := s.answers.head?.getD .reference

/-- The end of a step whose request is never answered (70 R189, 93 U6): its answer is used up, no event
is emitted and no store changes (log 8, DESIGN CHOICE: the spec does not say whether the `Write` event of
such a request stands in the history, nor what the backend did with it). -/
def State.hung (s : State) : State := { s with answers := s.answers.tail, waiting := true }

/-- `MemRead(sp, a, w)` (20 R44, R46): one request, one `Read` event with the answer. -/
def memRead (sp : Space) (a : Addr) (w : Width) (s : State) : Res Nat :=
  match s.answerNow with
  | .reference =>
    match (s.store sp).read a w with
    | some v => .goes v.toNat
        { s with answers := s.answers.tail, events := s.events ++ [.read sp a w v.toNat] }
    | none => .stops .addressOutside
  | .other v => .goes v { s with answers := s.answers.tail, events := s.events ++ [.read sp a w v] }
  | .silent => .ends s.hung

/-- `MemWrite(sp, a, v, w)` (20 R45, R47): one request, one `Write` event; the width is a side-band.
The event is emitted when the request completes: a request that the backend never completes leaves none
(R30, 44 R136 c and 70 R189 do not say; log 8, DESIGN CHOICE). -/
def memWrite (sp : Space) (a : Addr) (v : Data) (w : Width) (s : State) : Res Unit :=
  match s.answerNow with
  | .reference =>
    match (s.store sp).write a v w with
    | some m => .goes () (State.withStore
        { s with answers := s.answers.tail, events := s.events ++ [.write sp a v w] } sp m)
    | none => .stops .addressOutside
  | .other _ => .goes () { s with answers := s.answers.tail, events := s.events ++ [.write sp a v w] }
  | .silent => .ends s.hung

/-- The record the trace port writes at the end of a transfer tick (60 R175). -/
def traceTransfer (s : State) : State :=
  { s with trace := s.traced (.transfer s.ticks s.latch s.data) }

/-- The halt of the stop test (60 R168). -/
def haltStop (s : State) : State := { s with events := s.events ++ [.halt .stop], seq := .sStopped }

end Sys2Proof.Machine
end

