-- ==== Sys2Proof/Machine/BusCycleEngine.lean ====
section
/-! DEFINITION. The Bus Cycle Engine (spec/43_bus_cycle_engine.md): the actions of S_IDLE, S_I_LOW,
S_I_HIGH, S_A_LOW, S_A_HIGH (R113 to R117, R121), the operation IDLE (R122) and the four error
encodings (R123 to R125), each a whole tick. -/

namespace Sys2Proof.Machine

/-- What a decode word fixes for a cycle, besides the address. -/
structure CycleKind where
  dir : Direction
  space : Space
  width : Width
  deriving DecidableEq, Repr

/-- Start a tick (R113 b, c): the level-preserving Drive, the sample S1, TICKS + 1. -/
def tickOpen (s : State) : Res Unit :=
  (drive s.cfg.clkHigh s.tri s).andThen fun _ t =>
    (sample t).andThen fun v u => .goes () { u with s1 := v, ticks := u.ticks + 1 }

/-- Latch the address of S1 and become active (R113 d, e; R114). -/
def latchAddress (s : State) : Res Unit :=
  goto .sALow { s with latch := { s.latch with addr := s.cfg.decodeAddress s.s1 } }

/-- The action of S_IDLE (R113): the stop test before anything else. -/
def idleAction (s : State) : Res Unit :=
  if s.stopTest then .goes () (haltStop s)
  else (tickOpen s).andThen fun _ t =>
    if aleAsserted t.cfg t.s1 then latchAddress t else goto .sILow t

/-- The action of S_I_LOW (R115). -/
def iLow (s : State) : Res Unit :=
  (drive s.cfg.clkLow s.tri s).andThen fun _ t => goto .sIHigh t

/-- The action of S_I_HIGH (R116). -/
def iHigh (s : State) : Res Unit :=
  (drive s.cfg.clkHigh s.tri s).andThen fun _ t => goto .sIdle t

/-- Move to the decode phase (R117 a, b): falling edge, then the sample S2. -/
def resample (s : State) : Res Unit :=
  (drive s.cfg.clkLow s.tri s).andThen fun _ t =>
    (sample t).andThen fun v u => .goes () { u with s2 := v }

/-- Keep what the decode gave (R117 g). -/
def latchKind (k : CycleKind) (s : State) : Res Unit :=
  goto .sAHigh
    { s with latch := { s.latch with dir := k.dir, space := k.space, width := k.width } }

/-- Decode S2 and the latched address (R117 c to g); a failure raises DecodeError with DW. -/
def decodeAction (s : State) : Res Unit :=
  match decodeCycle s.cfg s.s2 s.latch.addr with
  | .ok (dir, sp, w) => latchKind ⟨dir, sp, w⟩ s
  | .error e => .ends (raise e (.dw (assembleDw s.cfg s.s2 s.latch.addr)) s)

/-- The action of S_A_LOW (R117). -/
def aLow (s : State) : Res Unit := (resample s).andThen fun _ t => decodeAction t

/-- The state the transfer starts in (R121). -/
def transferEntry : Direction → Seq
  | .read => .sRdReq
  | .write => .sWrCap

/-- The action of S_A_HIGH (R121). -/
def aHigh (s : State) : Res Unit :=
  (drive s.cfg.clkHigh s.tri s).andThen fun _ t => goto (transferEntry t.latch.dir) t

/-- S_IDLE (R113). -/
def execSIdle (s : State) : Host.Outcome State Fault Refusal := (idleAction s).outcome

/-- S_I_LOW (R115). -/
def execSILow (s : State) : Host.Outcome State Fault Refusal := (iLow s).outcome

/-- S_I_HIGH (R116). -/
def execSIHigh (s : State) : Host.Outcome State Fault Refusal := (iHigh s).outcome

/-- S_A_LOW (R117). -/
def execSALow (s : State) : Host.Outcome State Fault Refusal := (aLow s).outcome

/-- S_A_HIGH (R121). -/
def execSAHigh (s : State) : Host.Outcome State Fault Refusal := (aHigh s).outcome

/-- The part of a transfer tick before the executor, for the kind its decode word names. -/
def cycleOpen (k : CycleKind) (s : State) : Res Unit :=
  (tickOpen s).andThen fun _ t => (latchAddress t).andThen fun _ u =>
    (resample u).andThen fun _ v => (latchKind k v).andThen fun _ x => aHigh x

/-- A tick that ends in a DecodeError with the decode word `d` (R123 to R125). -/
def errorTick (e : Err) (d : DecodeWord) (s : State) : Host.Outcome State Fault Refusal :=
  ((tickOpen s).andThen fun _ t => (latchAddress t).andThen fun _ u =>
    (resample u).andThen fun _ v => .ends (raise e (.dw d) v)).outcome

/-- IDLE (R122): a whole idle tick. The five free bits of DW are never sampled. -/
def execIdle (_low : BitVec 5) (s : State) : Host.Outcome State Fault Refusal :=
  ((tickOpen s).andThen fun _ t => (goto .sILow t).andThen fun _ u =>
    (iLow u).andThen fun _ v => iHigh v).outcome

/-- ERR.DIR.NONE (R123). -/
def execErrDirNone (rest : BitVec 3) (s : State) : Host.Outcome State Fault Refusal :=
  errorTick .dirNone (0b111#3 ++ rest) s

/-- ERR.DIR.BOTH (R124). -/
def execErrDirBoth (rest : BitVec 3) (s : State) : Host.Outcome State Fault Refusal :=
  errorTick .dirBoth (0b100#3 ++ rest) s

/-- ERR.WIDTH.RD (R125). -/
def execErrWidthRd (mio : BitVec 1) (s : State) : Host.Outcome State Fault Refusal :=
  errorTick .width (0b101#3 ++ mio ++ 0b11#2) s

/-- ERR.WIDTH.WR (R125). -/
def execErrWidthWr (mio : BitVec 1) (s : State) : Host.Outcome State Fault Refusal :=
  errorTick .width (0b110#3 ++ mio ++ 0b11#2) s

end Sys2Proof.Machine
end

