-- ==== Sys2Proof/Machine/Halted.lean ====
section
/-! DEFINITION. The two absorbing states (spec/60_exceptions.md R164, R168): they do nothing until the
block itself is reset (R167). -/

namespace Sys2Proof.Machine

/-- S_STOPPED (R168). -/
def execSStopped (s : State) : Host.Outcome State Fault Refusal := .next s

/-- S_ERR (R164). -/
def execSErr (s : State) : Host.Outcome State Fault Refusal := .next s

end Sys2Proof.Machine
end

