-- ==== Sys2Proof/Machine/ResetSequencer.lean ====
section
/-! DEFINITION. The Reset Sequencer (spec/42_reset_sequencer.md R100 to R109): one meaning per SEQ state. -/

namespace Sys2Proof.Machine

/-- A state of the sequencer that is one Drive with TRI unchanged. -/
def driveThen (out : Mask) (q : Seq) (s : State) : Res Unit :=
  (drive out s.tri s).andThen fun _ t => goto q t

/-- S_OFF (R100). An ill-formed configuration has no run (93 U15). -/
def execSOff (s : State) : Host.Outcome State Fault Refusal :=
  if s.start then
    if s.cfg.wf then .next { s with seq := .sRs1 } else .refused .configRefused
  else .next s

/-- S_RS1 (R101). ERRINFO is cleared with ERR (log 17, DEDUCED). -/
def execSRs1 (s : State) : Host.Outcome State Fault Refusal :=
  ((init s).andThen fun _ t =>
    (drive 0 t.cfg.triDefault t).andThen fun _ u =>
      goto .sRs2 { u with ticks := 0, err := .none, errInfo := .none, rcnt := 0 }).outcome

/-- S_RS2 (R102). -/
def execSRs2 (s : State) : Host.Outcome State Fault Refusal :=
  ((power s.cfg.vlevel s.cfg.vccMask s.cfg.gndMask s).andThen fun _ t => goto .sRs3 t).outcome

/-- S_RS3 (R103). -/
def execSRs3 (s : State) : Host.Outcome State Fault Refusal :=
  (driveThen s.cfg.clkHigh .sRs4A s).outcome

/-- S_RS4A (R104). -/
def execSRs4A (s : State) : Host.Outcome State Fault Refusal :=
  ((drive (s.cfg.ah ||| s.cfg.bit .reset ||| s.cfg.bit .clk) s.tri s).andThen fun _ t =>
    goto .sRs4L { t with rcnt := 0 }).outcome

/-- S_RS4L (R105). -/
def execSRs4L (s : State) : Host.Outcome State Fault Refusal :=
  (driveThen (s.cfg.ah ||| s.cfg.bit .reset) .sRs4H s).outcome

/-- S_RS4H (R106). -/
def execSRs4H (s : State) : Host.Outcome State Fault Refusal :=
  ((drive (s.cfg.ah ||| s.cfg.bit .reset ||| s.cfg.bit .clk) s.tri s).andThen fun _ t =>
    goto (if t.cfg.resetCycles ≤ t.rcnt + 1 then .sRs5A else .sRs4L)
      { t with rcnt := t.rcnt + 1 }).outcome

/-- S_RS5A (R107). -/
def execSRs5A (s : State) : Host.Outcome State Fault Refusal :=
  (driveThen s.cfg.clkHigh .sRs5L s).outcome

/-- S_RS5L (R108). -/
def execSRs5L (s : State) : Host.Outcome State Fault Refusal :=
  (driveThen s.cfg.clkLow .sRs5H s).outcome

/-- S_RS5H (R109): hand-over to the engine. -/
def execSRs5H (s : State) : Host.Outcome State Fault Refusal :=
  (driveThen s.cfg.clkHigh .sIdle s).outcome

end Sys2Proof.Machine
end

