-- ==== Sys2Proof/Machine/TransferExecutor.lean ====
section
/-! DEFINITION. The Transfer Executor (spec/44_transfer_executor.md): the actions of its seven SEQ states
(R131 to R138) and the twelve transfer operations, each a whole tick (R139 to R151). -/

namespace Sys2Proof.Machine

/-- Form and check the value of a read (R131 c to e, R135, 60 R162). -/
def acceptRead (r : Nat) (s : State) : Res Unit :=
  if readValue s.cfg s.latch.width r ≤ 65535 then
    goto .sRdLow { s with data := BitVec.ofNat 16 (readValue s.cfg s.latch.width r) }
  else .ends (raise .contractViolation (.value (readValue s.cfg s.latch.width r)) s)

/-- The action of S_RD_REQ (R131). A block that already waits has no successor (70 R189). -/
def rdReq (s : State) : Res Unit :=
  if s.waiting then .stops .backendSilent
  else (drive s.out s.cfg.triDefault s).andThen fun _ t =>
    (memRead t.latch.space t.latch.addr t.latch.width t).andThen acceptRead

/-- The action of S_RD_LOW (R132): OUT, TRI and the clock edge in one event. -/
def rdLow (s : State) : Res Unit :=
  (drive (s.cfg.clkLow ||| s.cfg.dataMask s.data) s.cfg.triRead s).andThen fun _ t => goto .sRdHigh t

/-- The action of S_RD_HIGH (R133). -/
def rdHigh (s : State) : Res Unit :=
  (drive (s.cfg.clkHigh ||| s.cfg.dataMask s.data) s.tri s).andThen fun _ t => goto .sRdRel t

/-- The action of S_RD_REL (R134); the tick's trace record follows (60 R175). -/
def rdRel (s : State) : Res Unit :=
  (drive s.cfg.clkHigh s.cfg.triDefault s).andThen fun _ t => goto .sIdle (traceTransfer t)

/-- The action of S_WR_CAP (R136): all 16 bits go to the backend, whatever the width. -/
def wrCap (s : State) : Res Unit :=
  if s.waiting then .stops .backendSilent
  else (sample s).andThen fun v t =>
    (memWrite t.latch.space t.latch.addr (t.cfg.decodeData v) t.latch.width
      { t with s3 := v, data := t.cfg.decodeData v }).andThen fun _ u => goto .sWrLow u

/-- The action of S_WR_LOW (R137). -/
def wrLow (s : State) : Res Unit :=
  (drive s.cfg.clkLow s.tri s).andThen fun _ t => goto .sWrHigh t

/-- The action of S_WR_HIGH (R138); the tick's trace record follows (60 R175). -/
def wrHigh (s : State) : Res Unit :=
  (drive s.cfg.clkHigh s.tri s).andThen fun _ t => goto .sIdle (traceTransfer t)

/-- S_RD_REQ (R131). -/
def execSRdReq (s : State) : Host.Outcome State Fault Refusal := (rdReq s).outcome

/-- S_RD_LOW (R132). -/
def execSRdLow (s : State) : Host.Outcome State Fault Refusal := (rdLow s).outcome

/-- S_RD_HIGH (R133). -/
def execSRdHigh (s : State) : Host.Outcome State Fault Refusal := (rdHigh s).outcome

/-- S_RD_REL (R134). -/
def execSRdRel (s : State) : Host.Outcome State Fault Refusal := (rdRel s).outcome

/-- S_WR_CAP (R136). -/
def execSWrCap (s : State) : Host.Outcome State Fault Refusal := (wrCap s).outcome

/-- S_WR_LOW (R137). -/
def execSWrLow (s : State) : Host.Outcome State Fault Refusal := (wrLow s).outcome

/-- S_WR_HIGH (R138). -/
def execSWrHigh (s : State) : Host.Outcome State Fault Refusal := (wrHigh s).outcome

/-- A whole Read tick of one space and width (R139): from S_IDLE to the next S_IDLE. -/
def readTick (sp : Space) (w : Width) (s : State) : Host.Outcome State Fault Refusal :=
  ((cycleOpen ⟨.read, sp, w⟩ s).andThen fun _ t => (rdReq t).andThen fun _ u =>
    (rdLow u).andThen fun _ v => (rdHigh v).andThen fun _ x => rdRel x).outcome

/-- A whole Write tick of one space and width (R139). -/
def writeTick (sp : Space) (w : Width) (s : State) : Host.Outcome State Fault Refusal :=
  ((cycleOpen ⟨.write, sp, w⟩ s).andThen fun _ t => (wrCap t).andThen fun _ u =>
    (wrLow u).andThen fun _ v => wrHigh v).outcome

/-- RD.M.W (R140). -/
def execRdMW (s : State) : Host.Outcome State Fault Refusal := readTick .memory .word s

/-- RD.M.UB (R141). -/
def execRdMUB (s : State) : Host.Outcome State Fault Refusal := readTick .memory .upperByte s

/-- RD.M.LB (R142). -/
def execRdMLB (s : State) : Host.Outcome State Fault Refusal := readTick .memory .lowerByte s

/-- RD.IO.W (R143). -/
def execRdIoW (s : State) : Host.Outcome State Fault Refusal := readTick .io .word s

/-- RD.IO.UB (R144). -/
def execRdIoUB (s : State) : Host.Outcome State Fault Refusal := readTick .io .upperByte s

/-- RD.IO.LB (R145). -/
def execRdIoLB (s : State) : Host.Outcome State Fault Refusal := readTick .io .lowerByte s

/-- WR.M.W (R146). -/
def execWrMW (s : State) : Host.Outcome State Fault Refusal := writeTick .memory .word s

/-- WR.M.UB (R147). -/
def execWrMUB (s : State) : Host.Outcome State Fault Refusal := writeTick .memory .upperByte s

/-- WR.M.LB (R148). -/
def execWrMLB (s : State) : Host.Outcome State Fault Refusal := writeTick .memory .lowerByte s

/-- WR.IO.W (R149). -/
def execWrIoW (s : State) : Host.Outcome State Fault Refusal := writeTick .io .word s

/-- WR.IO.UB (R150). -/
def execWrIoUB (s : State) : Host.Outcome State Fault Refusal := writeTick .io .upperByte s

/-- WR.IO.LB (R151). -/
def execWrIoLB (s : State) : Host.Outcome State Fault Refusal := writeTick .io .lowerByte s

end Sys2Proof.Machine
end

