-- ==== Sys2Proof/Machine/Dispatch.lean ====
section
/-! DEFINITION. The dispatch: one arm per row of spec/opcode_table.json. -/

namespace Sys2Proof.Machine

def exec (i : Instr) (s : State) : Host.Outcome State Fault Refusal :=
  match i with
  | .idle low => Sys2Proof.Machine.execIdle low s
  | .rdMW => Sys2Proof.Machine.execRdMW s
  | .rdMUB => Sys2Proof.Machine.execRdMUB s
  | .rdMLB => Sys2Proof.Machine.execRdMLB s
  | .rdIoW => Sys2Proof.Machine.execRdIoW s
  | .rdIoUB => Sys2Proof.Machine.execRdIoUB s
  | .rdIoLB => Sys2Proof.Machine.execRdIoLB s
  | .wrMW => Sys2Proof.Machine.execWrMW s
  | .wrMUB => Sys2Proof.Machine.execWrMUB s
  | .wrMLB => Sys2Proof.Machine.execWrMLB s
  | .wrIoW => Sys2Proof.Machine.execWrIoW s
  | .wrIoUB => Sys2Proof.Machine.execWrIoUB s
  | .wrIoLB => Sys2Proof.Machine.execWrIoLB s
  | .errDirNone rest => Sys2Proof.Machine.execErrDirNone rest s
  | .errDirBoth rest => Sys2Proof.Machine.execErrDirBoth rest s
  | .errWidthRd mio => Sys2Proof.Machine.execErrWidthRd mio s
  | .errWidthWr mio => Sys2Proof.Machine.execErrWidthWr mio s
  | .sOff => Sys2Proof.Machine.execSOff s
  | .sRs1 => Sys2Proof.Machine.execSRs1 s
  | .sRs2 => Sys2Proof.Machine.execSRs2 s
  | .sRs3 => Sys2Proof.Machine.execSRs3 s
  | .sRs4A => Sys2Proof.Machine.execSRs4A s
  | .sRs4L => Sys2Proof.Machine.execSRs4L s
  | .sRs4H => Sys2Proof.Machine.execSRs4H s
  | .sRs5A => Sys2Proof.Machine.execSRs5A s
  | .sRs5L => Sys2Proof.Machine.execSRs5L s
  | .sRs5H => Sys2Proof.Machine.execSRs5H s
  | .sIdle => Sys2Proof.Machine.execSIdle s
  | .sILow => Sys2Proof.Machine.execSILow s
  | .sIHigh => Sys2Proof.Machine.execSIHigh s
  | .sALow => Sys2Proof.Machine.execSALow s
  | .sAHigh => Sys2Proof.Machine.execSAHigh s
  | .sRdReq => Sys2Proof.Machine.execSRdReq s
  | .sRdLow => Sys2Proof.Machine.execSRdLow s
  | .sRdHigh => Sys2Proof.Machine.execSRdHigh s
  | .sRdRel => Sys2Proof.Machine.execSRdRel s
  | .sWrCap => Sys2Proof.Machine.execSWrCap s
  | .sWrLow => Sys2Proof.Machine.execSWrLow s
  | .sWrHigh => Sys2Proof.Machine.execSWrHigh s
  | .sStopped => Sys2Proof.Machine.execSStopped s
  | .sErr => Sys2Proof.Machine.execSErr s

end Sys2Proof.Machine
end

