-- ==== Sys2Proof/Machine/Fetch.lean ====
section
/-! DEFINITION. What a step runs: the word of SEQ, or at S_IDLE, when a step is a whole tick, the decode
word that the tick's samples will form (spec/10_state.md R13, spec/30_encoding.md R64, R66); and the
environment that encodes a given decode word (spec/95_test_vectors.md 2.6, 2.7). -/

namespace Sys2Proof.Machine

/-- The sample S1 the next tick will take. -/
def State.nextS1 (s : State) : Mask := sampled s.cfg.clkHigh s.tri (s.envAt 1).levels

/-- The sample S2 the next tick will take, if it is an active one. -/
def State.nextS2 (s : State) : Mask := sampled s.cfg.clkLow s.tri (s.envAt 3).levels

/-- The decode word of the next tick. An idle tick forms only its ALE bit (30 R66): the others are
given as 0 (log 13, DESIGN CHOICE). -/
def State.nextDw (s : State) : DecodeWord :=
  if aleAsserted s.cfg s.nextS1 then assembleDw s.cfg s.nextS2 (s.cfg.decodeAddress s.nextS1) else 0

/-- The word a step fetches (log 1). -/
def fetch (s : State) : Format × Word :=
  if s.unit = .tick ∧ s.seq = .sIdle ∧ s.stopTest = false then (.dw, dwWord s.nextDw)
  else (.sq, sqWord s.seq)

/-- The pin of a role at a level, all other pins low. -/
def Config.withLevel (c : Config) (r : Role) (b : Bool) : Mask := if b then c.bit r else 0

/-- Environment levels at S1 that encode ALE and A0 of a decode word. -/
def s1Levels (c : Config) (d : DecodeWord) : Mask :=
  Config.withLevel c .ale (d.getLsbD 5 == c.aleActiveLevel) ||| Config.withLevel c (.ad 0) (d.getLsbD 0)

/-- Environment levels at S2 that encode RD, WR, MIO and BHE of a decode word. -/
def s2Levels (c : Config) (d : DecodeWord) : Mask :=
  Config.withLevel c .rd (d.getLsbD 4) ||| Config.withLevel c .wr (d.getLsbD 3) |||
    Config.withLevel c .mio (d.getLsbD 2 == c.mioMemoryLevel) |||
    Config.withLevel c .bhe (d.getLsbD 1)

/-- A pad event at which nothing fails and the processor is not heeded. -/
def PadEnv.quiet : PadEnv := ⟨false, 0, 0⟩

/-- A pad event at which the released pins have the given levels. -/
def PadEnv.level (m : Mask) : PadEnv := ⟨false, m, 0⟩

/-- The environment of one tick that encodes a decode word: one record per pad event of the longest
tick (44 R139); the later samples repeat S2's levels (95 2.7). -/
def tickEnv (c : Config) (d : DecodeWord) : List PadEnv :=
  [.quiet, .level (s1Levels c d), .quiet, .level (s2Levels c d), .quiet, .level (s2Levels c d),
    .quiet, .quiet, .quiet]

end Sys2Proof.Machine
end

