-- ==== Sys2Proof/Machine/HostPort.lean ====
section
/-! DEFINITION. The host's port (spec/10_state.md R13, R25): what the host may do between two steps, the
block's own reset among it (spec/70_reset_and_hazards.md R180, R183; spec/60_exceptions.md R167). -/

namespace Sys2Proof.Machine

/-- The block's own reset (R180, R33): every register of the block takes its power-on value and the
history of the new run is empty. The host's registers, the parameters and what belongs to the agents
around the block stay; a request that hangs is given up, and later requests get the answers that follow
in the list (log 8, log 10, DESIGN CHOICE). -/
def blockReset (s : State) : State :=
  { State.reset with
    cfg := s.cfg
    start := s.start
    stopReq := s.stopReq
    tickLimit := s.tickLimit
    verbose := s.verbose
    mem := s.mem
    io := s.io
    env := s.env
    draws := s.draws
    answers := s.answers
    host := s.host
    unit := s.unit }

/-- One act of the host; none when it is refused. While the block runs only STOP_REQ may be written
(R183, 93 U23); the parameters may change only before a run, in S_OFF. -/
def hostAct (a : HostAct) (s : State) : Option State :=
  match a with
  | .nothing => some s
  | .writeStopReq b => some { s with stopReq := b }
  | .writeStart b => if s.seq.inRun then none else some { s with start := b }
  | .writeTickLimit n => if s.seq.inRun then none else some { s with tickLimit := n }
  | .writeVerbose b => if s.seq.inRun then none else some { s with verbose := b }
  | .configure c => if s.seq = .sOff then some { s with cfg := c } else none
  | .blockReset => some (blockReset s)

/-- Take the host's next act, if it has one, and perform it. -/
def hostTurn (s : State) : Option State :=
  match s.host with
  | [] => some s
  | a :: rest => hostAct a { s with host := rest }

end Sys2Proof.Machine
end

