-- ==== Sys2Proof/Machine/Step.lean ====
section
/-! DEFINITION. One step: the host's turn, then the fetched operation (spec/10_state.md R13). -/

namespace Sys2Proof.Machine

/-- Fetch, decode and run. -/
def runFetched (s : State) : Host.Outcome State Fault Refusal :=
  match decode (fetch s).1 (fetch s).2 with
  | .ok i => exec i s
  | .error _ => .refused .badWord

/-- One step of the machine. -/
def step (s : State) : Host.Outcome State Fault Refusal :=
  match hostTurn s with
  | some t => runFetched t
  | none => .refused .hostWriteRefused

/-- The state whose very next step fetches and runs the given word of the operation table (log 13).
An SQ word is put into SEQ. A decode word is formed by the block itself from the pins, so the state
is at the start of a tick that will not stop, a step is a whole tick, the sampled pins are released
and the environment shows levels that encode the word. -/
def State.withFetchWord (s : State) (nbits w : Nat) : State :=
  match tableFormat nbits w with
  | .sq =>
    { s with
      seq := (Seq.ofCode (BitVec.ofNat 5 w)).getD s.seq
      unit := .micro
      waiting := false
      host := []
      env := if s.env.isEmpty then tickEnv s.cfg 0 else s.env }
  | .dw =>
    { s with
      seq := .sIdle
      unit := .tick
      waiting := false
      host := []
      stopReq := false
      tickLimit := none
      tri := s.cfg.triDefault
      env := tickEnv s.cfg (BitVec.ofNat 6 w) }

end Sys2Proof.Machine
end

