-- ==== Sys2Proof/Machine/Adapter.lean ====
section
/-! DEFINITION. The realisation of the pad events over the source's eight adapter calls
(spec/41_adapter_ops.md R90, R94): a view of the event history. No step depends on it. -/

namespace Sys2Proof.Machine

/-- The eight functions of the source's adapter contract (41 R90, 30 R75). -/
inductive AdapterCall where
  | init
  | writeOutputs (m : Mask)
  | readInputs
  | setTriState (m : Mask)
  | setSupplyVoltageLevel (level : SupplyLevel)
  | setSupplyPins (m : Mask)
  | setGroundPins (m : Mask)
  | enableSupply
  deriving DecidableEq, Repr

/-- The calls of `Drive(out, tri)` issued in the state `q` while TRI is `old` (R94): S_RD_REQ is one
setTriState; a Drive that keeps TRI is one writeOutputs; one that enables drivers writes the outputs
first; one that only releases drivers sets the tri-state first. -/
def driveCalls (q : Seq) (old out tri : Mask) : List AdapterCall :=
  if q = .sRdReq then [.setTriState tri]
  else if tri = old then [.writeOutputs out]
  else if old &&& ~~~ tri ≠ 0 then [.writeOutputs out, .setTriState tri]
  else [.setTriState tri, .writeOutputs out]

/-- The adapter calls of one event (R90, R94, R95). -/
def eventCalls (q : Seq) (old : Mask) : Event → List AdapterCall
  | .init => [.init]
  | .power level vcc gnd =>
    [.setSupplyVoltageLevel level, .setSupplyPins vcc, .setGroundPins gnd, .enableSupply]
  | .drive out tri => driveCalls q old out tri
  | .sample _ => [.readInputs]
  | .read _ _ _ _ => []
  | .write _ _ _ _ => []
  | .halt _ => []

/-- What a call does to the adapter's pair of output and tri-state masks. -/
def callPads (p : Mask × Mask) : AdapterCall → Mask × Mask
  | .init => (0, BitVec.allOnes 160)
  | .writeOutputs m => (m, p.2)
  | .setTriState m => (p.1, m)
  | .readInputs => p
  | .setSupplyVoltageLevel _ => p
  | .setSupplyPins _ => p
  | .setGroundPins _ => p
  | .enableSupply => p

end Sys2Proof.Machine
end

