-- ==== Sys2Proof/Safety.lean ====
section
/-! DEFINITION. What a safe run is, in the terms the statements use: the environment premises of one
step (spec/41_adapter_ops.md R96, R97), the pad values of every SEQ state (spec/10_state.md R35,
spec/30_encoding.md R70, R71) and the machine's invariant. -/

namespace Sys2Proof.Machine

/-- The k-th pad event from now does not fail (R97) and does not contend (R96) when the block then
drives `out` under `tri`. -/
def State.padOk (s : State) (k : Nat) (out tri : Mask) : Prop :=
  (s.envAt k).fails = false ∧ (s.envAt k).contends out tri = false

/-- The premise of a sequence of pad events: the (OUT, TRI) the block has at each of them. -/
def State.padsOk (s : State) : Nat → List (Mask × Mask) → Prop
  | _, [] => True
  | k, p :: ps => s.padOk k p.1 p.2 ∧ s.padsOk (k + 1) ps

/-- What n pad events take from the environment. -/
def State.afterPads (s : State) (n : Nat) : State :=
  { s with env := s.env.drop n, draws := s.draws + n }

/-- The state after one successful `Drive(out, tri)` that ends a step in `q`. -/
def State.droveTo (s : State) (out tri : Mask) (q : Seq) : State :=
  { s.afterPads 1 with out := out, tri := tri, events := s.events ++ [.drive out tri], seq := q }

/-- Apply a function to the state of a next outcome. -/
def outcomeMap (f : State → State) (o : Host.Outcome State Fault Refusal) :
    Host.Outcome State Fault Refusal :=
  match o with
  | .next s => .next (f s)
  | .fault r => .fault r
  | .refused r => .refused r

/-- The (OUT, TRI) pair after a list of events (R14, R15, R30). -/
def padsAfter (p : Mask × Mask) : List Event → Mask × Mask
  | [] => p
  | .init :: es => padsAfter (0, BitVec.allOnes 160) es
  | .drive out tri :: es => padsAfter (out, tri) es
  | .power _ _ _ :: es => padsAfter p es
  | .sample _ :: es => padsAfter p es
  | .read _ _ _ _ :: es => padsAfter p es
  | .write _ _ _ _ :: es => padsAfter p es
  | .halt _ :: es => padsAfter p es

/-- Is an event a Drive? -/
def Event.isDrive : Event → Bool
  | .drive _ _ => true
  | _ => false

/-- Is an event a Sample? -/
def Event.isSample : Event → Bool
  | .sample _ => true
  | _ => false

/-- Is an event a backend request? -/
def Event.isRequest : Event → Bool
  | .read _ _ _ _ => true
  | .write _ _ _ _ => true
  | _ => false

/-- (OUT, TRI) at the first pad event of an operation; none for a step without a pad event. -/
def firstPad (i : Instr) (s : State) : Option (Mask × Mask) :=
  match i with
  | .sOff | .sStopped | .sErr => none
  | .sRs1 => some (0, BitVec.allOnes 160)
  | .sRs2 => some (s.out, s.tri)
  | .sRs3 | .sRs5A | .sRs5H | .sIHigh | .sAHigh | .sWrHigh => some (s.cfg.clkHigh, s.tri)
  | .sRs4A | .sRs4H => some (s.cfg.ah ||| s.cfg.bit .reset ||| s.cfg.bit .clk, s.tri)
  | .sRs4L => some (s.cfg.ah ||| s.cfg.bit .reset, s.tri)
  | .sRs5L | .sILow | .sALow | .sWrLow => some (s.cfg.clkLow, s.tri)
  | .sIdle => if s.stopTest then none else some (s.cfg.clkHigh, s.tri)
  | .sRdReq => if s.waiting then none else some (s.out, s.cfg.triDefault)
  | .sRdLow => some (s.cfg.clkLow ||| s.cfg.dataMask s.data, s.cfg.triRead)
  | .sRdHigh => some (s.cfg.clkHigh ||| s.cfg.dataMask s.data, s.tri)
  | .sRdRel => some (s.cfg.clkHigh, s.cfg.triDefault)
  | .sWrCap => if s.waiting then none else some (s.out, s.tri)
  | .idle _ | .errDirNone _ | .errDirBoth _ | .errWidthRd _ | .errWidthWr _ =>
    some (s.cfg.clkHigh, s.tri)
  | .rdMW | .rdMUB | .rdMLB | .rdIoW | .rdIoUB | .rdIoLB => some (s.cfg.clkHigh, s.tri)
  | .wrMW | .wrMUB | .wrMLB | .wrIoW | .wrIoUB | .wrIoLB => some (s.cfg.clkHigh, s.tri)

/-- The six read operations with the space and width their row names (30 R68). -/
def readOps : List (Instr × Space × Width) :=
  [(.rdMW, .memory, .word), (.rdMUB, .memory, .upperByte), (.rdMLB, .memory, .lowerByte),
    (.rdIoW, .io, .word), (.rdIoUB, .io, .upperByte), (.rdIoLB, .io, .lowerByte)]

/-- The six write operations with the space and width their row names (30 R68). -/
def writeOps : List (Instr × Space × Width) :=
  [(.wrMW, .memory, .word), (.wrMUB, .memory, .upperByte), (.wrMLB, .memory, .lowerByte),
    (.wrIoW, .io, .word), (.wrIoUB, .io, .upperByte), (.wrIoLB, .io, .lowerByte)]

/-- The four error encodings with the cause they raise and the decode word they record
(43 R123 to R125, 60 R160). -/
def errorCause : Instr → Option (Err × DecodeWord)
  | .errDirNone rest => some (.dirNone, 0b111#3 ++ rest)
  | .errDirBoth rest => some (.dirBoth, 0b100#3 ++ rest)
  | .errWidthRd mio => some (.width, 0b101#3 ++ mio ++ 0b11#2)
  | .errWidthWr mio => some (.width, 0b110#3 ++ mio ++ 0b11#2)
  | _ => none

/-- The backend's answer to a read that is neither refused by the space nor withheld. -/
def State.answersRead (s : State) (sp : Space) (a : Addr) (w : Width) (r : Nat) : Prop :=
  s.answerNow = .reference ∧ ((s.store sp).read a w).map BitVec.toNat = some r ∨
    s.answerNow = .other r

/-- The stores after a write that completes: the reference backend's, or unchanged under another. -/
def State.acceptsWrite (s : State) (sp : Space) (a : Addr) (v : Data) (w : Width) (m : Memory) :
    Prop :=
  s.answerNow = .reference ∧ (s.store sp).write a v w = some m ∨
    (∃ n, s.answerNow = .other n) ∧ m = s.store sp

/-- The SEQ states of the Reset Sequencer and S_OFF, as operations. -/
def sequencerOps : List Instr :=
  [.sOff, .sRs1, .sRs2, .sRs3, .sRs4A, .sRs4L, .sRs4H, .sRs5A, .sRs5L, .sRs5H]

/-- The OUT value with RESET high and the clock low (42 R105). -/
def resetLow (c : Config) : Mask := c.ah ||| c.bit .reset

/-- The OUT value with RESET and the clock high (42 R104, R106). -/
def resetHigh (c : Config) : Mask := c.ah ||| c.bit .reset ||| c.bit .clk

/-- (OUT, TRI) while SEQ holds `q`, before the action of `q` (R35, R70, R71). In S_ERR the pads keep
what they were (60 R164): see `MachineInv`. -/
def padsAt (c : Config) (data : Data) : Seq → Mask × Mask
  | .sOff | .sRs1 | .sErr => (0, BitVec.allOnes 160)
  | .sRs2 | .sRs3 => (0, c.triDefault)
  | .sRs4A => (c.clkHigh, c.triDefault)
  | .sRs4L | .sRs5A => (resetHigh c, c.triDefault)
  | .sRs4H => (resetLow c, c.triDefault)
  | .sRs5L => (c.clkHigh, c.triDefault)
  | .sRs5H => (c.clkLow, c.triDefault)
  | .sIdle | .sILow | .sALow | .sRdReq | .sRdLow => (c.clkHigh, c.triDefault)
  | .sWrCap | .sWrLow | .sStopped => (c.clkHigh, c.triDefault)
  | .sIHigh | .sAHigh | .sWrHigh => (c.clkLow, c.triDefault)
  | .sRdHigh => (c.clkLow ||| c.dataMask data, c.triRead)
  | .sRdRel => (c.clkHigh ||| c.dataMask data, c.triRead)

/-- The alignment that the width decode gives a latched cycle (20 R42). -/
def Latch.aligned (l : Latch) : Prop :=
  match l.width with
  | .word => l.addr.getLsbD 0 = false
  | .upperByte => l.addr.getLsbD 0 = true
  | .lowerByte => l.addr.getLsbD 0 = false

/-- ERRINFO fits ERR (60 R160). -/
def errInfoFits : Err → ErrInfo → Prop
  | .none, i => i = .none
  | .dirNone, i => ∃ d, i = .dw d
  | .dirBoth, i => ∃ d, i = .dw d
  | .width, i => ∃ d, i = .dw d
  | .contractViolation, i => ∃ v, i = .value v ∧ 65535 < v
  | .adapterIo, i => i = .none

/-- What the counters and supply registers hold while SEQ is `q` (R21, R26, R33, R34). -/
def progressAt (s : State) : Seq → Prop
  | .sOff | .sRs1 | .sRs2 => s.rcnt = 0 ∧ s.supplyEn = false
  | .sRs3 | .sRs4A => s.rcnt = 0 ∧ s.supplyEn = true
  | .sRs4L | .sRs4H => s.rcnt < s.cfg.resetCycles ∧ s.supplyEn = true
  | .sErr => s.rcnt ≤ s.cfg.resetCycles
  | .sRs5A | .sRs5L | .sRs5H | .sIdle | .sILow | .sIHigh | .sALow | .sAHigh =>
    s.rcnt = s.cfg.resetCycles ∧ s.supplyEn = true
  | .sRdReq | .sRdLow | .sRdHigh | .sRdRel | .sWrCap | .sWrLow | .sWrHigh | .sStopped =>
    s.rcnt = s.cfg.resetCycles ∧ s.supplyEn = true

/-- What LATCH holds while SEQ is `q` (R19, 20 R42, 43 R121). -/
def latchAt (l : Latch) : Seq → Prop
  | .sAHigh => l.aligned
  | .sRdReq | .sRdLow | .sRdHigh | .sRdRel => l.aligned ∧ l.dir = .read
  | .sWrCap | .sWrLow | .sWrHigh => l.aligned ∧ l.dir = .write
  | _ => True

/-- The invariant of the machine: it holds in the reset state and every step keeps it. -/
structure MachineInv (s : State) : Prop where
  /-- The pads are those of SEQ (R35). -/
  pads : s.seq ≠ .sErr → (s.out, s.tri) = padsAt s.cfg s.data s.seq
  /-- An aborted block keeps the pads of some earlier state (60 R164). -/
  padsKept : s.seq = .sErr → ∃ q, q ≠ .sErr ∧ (s.out, s.tri) = padsAt s.cfg s.data q
  /-- The pads of an abort that is no AdapterIoError: the data lines are released, the always-high pins
  high, the clock low after a DecodeError and high after a ContractViolation (60 R164). -/
  released : s.seq = .sErr → s.err ≠ .adapterIo → s.tri = s.cfg.triDefault ∧
    s.out = if s.err = .contractViolation then s.cfg.clkHigh else s.cfg.clkLow
  /-- ERR is set exactly in S_ERR (R23). -/
  errSet : s.seq = .sErr ↔ s.err ≠ .none
  /-- ERRINFO fits ERR (60 R160). -/
  errFits : errInfoFits s.err s.errInfo
  /-- A run has a well-formed configuration (93 U15). -/
  cfgOk : s.seq ≠ .sOff → s.cfg.wf = true
  progress : progressAt s s.seq
  /-- An enabled supply holds the configured values (R26, R34). -/
  supply : s.supplyEn = true →
    s.vlevelR = s.cfg.vlevel ∧ s.vccR = s.cfg.vccMask ∧ s.gndR = s.cfg.gndMask
  latchOk : latchAt s.latch s.seq
  /-- The stores are canonical. -/
  memOk : s.mem.wf = true
  ioOk : s.io.wf = true
  /-- Only a state with a request waits (70 R189). -/
  waits : s.waiting = true → s.seq = .sRdReq ∨ s.seq = .sWrCap

end Sys2Proof.Machine
end

