-- ==== Sys2Proof/Certificates/Slice0/Obligations.lean ====
section
/-! DEFINITION. The statements for the provers. `State.afterPads n` in an expected state is the model's
own bookkeeping (log 5): n environment records are used up. Everything a record update does not name
is unchanged, so each such equality is also the operation's frame. -/

namespace Sys2Proof.Machine

/-- What a transfer tick leaves when it completes (R139): both samples taken under TRI_DEFAULT, the
address of the first one latched, TICKS + 1, the trace record if VERBOSE is 1. -/
def transferEnd (s : State) (n : Nat) (d : Data) (l : Latch) (es : List Event) : State :=
  { s.afterPads n with
    out := s.cfg.clkHigh
    tri := s.cfg.triDefault
    s1 := sampled s.cfg.clkHigh s.cfg.triDefault (s.envAt 1).levels
    s2 := sampled s.cfg.clkLow s.cfg.triDefault (s.envAt 3).levels
    latch := l
    data := d
    ticks := s.ticks + 1
    answers := s.answers.tail
    events := s.events ++ es
    trace := if s.verbose then s.trace ++ [.transfer (s.ticks + 1) l d] else s.trace
    seq := .sIdle }

/-- The address a tick latches: the address bits of its first sample. -/
def tickAddr (s : State) : Addr :=
  s.cfg.decodeAddress (sampled s.cfg.clkHigh s.cfg.triDefault (s.envAt 1).levels)

/-- The value a write tick captures: the data bits of its third sample. -/
def tickData (s : State) : Data :=
  s.cfg.decodeData (sampled s.cfg.clkHigh s.cfg.triDefault (s.envAt 5).levels)

/-- The events before the request that both shapes of R139 share. -/
def openEvents (s : State) : List Event :=
  [.drive s.cfg.clkHigh s.cfg.triDefault,
    .sample (sampled s.cfg.clkHigh s.cfg.triDefault (s.envAt 1).levels),
    .drive s.cfg.clkLow s.cfg.triDefault,
    .sample (sampled s.cfg.clkLow s.cfg.triDefault (s.envAt 3).levels),
    .drive s.cfg.clkHigh s.cfg.triDefault]

/-- The event list of a completed Read cycle (R139). -/
def readEvents (s : State) (sp : Space) (w : Width) (r : Nat) (d : Data) : List Event :=
  openEvents s ++
    [.drive s.cfg.clkHigh s.cfg.triDefault, .read sp (tickAddr s) w r,
      .drive (s.cfg.clkLow ||| s.cfg.dataMask d) s.cfg.triRead,
      .drive (s.cfg.clkHigh ||| s.cfg.dataMask d) s.cfg.triRead,
      .drive s.cfg.clkHigh s.cfg.triDefault]

/-- The event list of a completed Write cycle (R139). -/
def writeEvents (s : State) (sp : Space) (w : Width) : List Event :=
  openEvents s ++
    [.sample (sampled s.cfg.clkHigh s.cfg.triDefault (s.envAt 5).levels),
      .write sp (tickAddr s) (tickData s) w,
      .drive s.cfg.clkLow s.cfg.triDefault, .drive s.cfg.clkHigh s.cfg.triDefault]

/-- (OUT, TRI) at the first five pad events of a transfer tick. -/
def openPads (c : Config) : List (Mask × Mask) :=
  [(c.clkHigh, c.triDefault), (c.clkHigh, c.triDefault), (c.clkLow, c.triDefault),
    (c.clkLow, c.triDefault), (c.clkHigh, c.triDefault)]

/-- (OUT, TRI) at the nine pad events of a Read tick that drives `d`. -/
def readPads (c : Config) (d : Data) : List (Mask × Mask) :=
  openPads c ++
    [(c.clkHigh, c.triDefault), (c.clkLow ||| c.dataMask d, c.triRead),
      (c.clkHigh ||| c.dataMask d, c.triRead), (c.clkHigh, c.triDefault)]

/-- (OUT, TRI) at the eight pad events of a Write tick. -/
def writePads (c : Config) : List (Mask × Mask) :=
  openPads c ++ [(c.clkHigh, c.triDefault), (c.clkLow, c.triDefault), (c.clkHigh, c.triDefault)]

/-- The events of the whole reset sequence with `n` reset periods (42 R110). -/
def resetEvents (c : Config) (n : Nat) : List Event :=
  [.init, .drive 0 c.triDefault, .power c.vlevel c.vccMask c.gndMask, .drive c.clkHigh c.triDefault,
    .drive (resetHigh c) c.triDefault] ++
  (List.replicate n
    [Event.drive (resetLow c) c.triDefault, Event.drive (resetHigh c) c.triDefault]).flatten ++
  [.drive c.clkHigh c.triDefault, .drive c.clkLow c.triDefault, .drive c.clkHigh c.triDefault]

end Sys2Proof.Machine

open Sys2Proof Sys2Proof.Machine

/-! ## Reset Sequencer -/

/-- R100: S_OFF waits for START and writes nothing but SEQ. 93 U15 refuses an ill-formed configuration;
that the refusal comes at START in S_OFF, and that `Config.wf` compares pins (so that it refuses LOCK on
WR's pin among ALWAYS_DRIVEN) and refuses CLK and RESET in ALWAYS_HIGH, is the model's reading (log 11). -/
def Obligations.SOffWaitsForStart : Prop :=
  ∀ s : State,
    (s.start = false → exec .sOff s = .next s) ∧
    (s.start = true → s.cfg.wf = true → exec .sOff s = .next { s with seq := .sRs1 }) ∧
    (s.start = true → (exec .sOff s = .refused .configRefused ↔ s.cfg.wf = false))

/-- R101, R91. That ERRINFO is cleared with ERR is the model's reading (log 17). -/
def Obligations.SRs1InitialisesPads : Prop :=
  ∀ s : State,
    s.padsOk 0 [(0, BitVec.allOnes 160), (0, s.cfg.triDefault)] →
    exec .sRs1 s = .next
      { s.afterPads 2 with
        out := 0, tri := s.cfg.triDefault, supplyEn := false,
        events := s.events ++ [.init, .drive 0 s.cfg.triDefault],
        ticks := 0, err := .none, errInfo := .none, rcnt := 0, seq := .sRs2 }

/-- R102, R95. -/
def Obligations.SRs2EnablesSupply : Prop :=
  ∀ s : State, s.padsOk 0 [(s.out, s.tri)] →
    exec .sRs2 s = .next
      { s.afterPads 1 with
        vlevelR := s.cfg.vlevel, vccR := s.cfg.vccMask, gndR := s.cfg.gndMask, supplyEn := true,
        events := s.events ++ [.power s.cfg.vlevel s.cfg.vccMask s.cfg.gndMask], seq := .sRs3 }

/-- R103, R105, R107, R108, R109: the states that are one Drive. R109's full period after the release is
the spec's decision D9. -/
def Obligations.SequencerDrives : Prop :=
  ∀ s : State,
    (s.padOk 0 s.cfg.clkHigh s.tri →
      exec .sRs3 s = .next (s.droveTo s.cfg.clkHigh s.tri .sRs4A) ∧
      exec .sRs5A s = .next (s.droveTo s.cfg.clkHigh s.tri .sRs5L) ∧
      exec .sRs5H s = .next (s.droveTo s.cfg.clkHigh s.tri .sIdle)) ∧
    (s.padOk 0 (resetLow s.cfg) s.tri →
      exec .sRs4L s = .next (s.droveTo (resetLow s.cfg) s.tri .sRs4H)) ∧
    (s.padOk 0 s.cfg.clkLow s.tri →
      exec .sRs5L s = .next (s.droveTo s.cfg.clkLow s.tri .sRs5H))

/-- R104, R106, R21: RESET is raised with the clock high, in a Drive of its own, and RCNT counts the
periods under reset; that shape of the pulse is the spec's decision D9. -/
def Obligations.ResetPeriodsCounted : Prop :=
  ∀ s : State, s.padOk 0 (resetHigh s.cfg) s.tri →
    exec .sRs4A s = .next { s.droveTo (resetHigh s.cfg) s.tri .sRs4L with rcnt := 0 } ∧
    exec .sRs4H s = .next
      { s.droveTo (resetHigh s.cfg) s.tri
          (if s.cfg.resetCycles ≤ s.rcnt + 1 then .sRs5A else .sRs4L) with
        rcnt := s.rcnt + 1 }

/-- R110, R34: from S_OFF with START = 1 the sequencer emits exactly the events of R110 and hands over
in the state of R34. That ERRINFO is cleared with ERR is the model's reading (log 17). -/
def Obligations.ResetSequenceTrace : Prop :=
  ∀ s : State, s.seq = .sOff → s.start = true → s.cfg.wf = true → s.host = [] →
    (∀ k, k < 8 + 2 * s.cfg.resetCycles → (s.envAt k).fails = false ∧
      (s.envAt k).drives &&& ~~~ s.cfg.triDefault = 0) →
    Host.Core.run core (8 + 2 * s.cfg.resetCycles) s = .next
      { s.afterPads (8 + 2 * s.cfg.resetCycles) with
        seq := .sIdle, out := s.cfg.clkHigh, tri := s.cfg.triDefault,
        vlevelR := s.cfg.vlevel, vccR := s.cfg.vccMask, gndR := s.cfg.gndMask, supplyEn := true,
        rcnt := s.cfg.resetCycles, ticks := 0, err := .none, errInfo := .none,
        events := s.events ++ resetEvents s.cfg s.cfg.resetCycles }

/-- R110: the sequencer reads no pin. Two environments that let a state of it complete lead to the same
state, the environments apart. -/
def Obligations.ResetSequencerOpenLoop : Prop :=
  ∀ i ∈ sequencerOps, ∀ (s : State) (e : List PadEnv) (n : Nat) (t u : State),
    (∀ k, (s.envAt k).fails = false) →
    (∀ k, (State.envAt { s with env := e, draws := n } k).fails = false) →
    exec i s = .next t → exec i { s with env := e, draws := n } = .next u →
    { u with env := [], draws := 0 } = { t with env := [], draws := 0 }

/-! ## Bus Cycle Engine -/

/-- R168: the stop test of S_IDLE. -/
def Obligations.SIdleStops : Prop :=
  ∀ s : State, (s.stopReq = true ∨ ∃ n, s.tickLimit = some n ∧ n ≤ s.ticks) →
    exec .sIdle s = .next { s with events := s.events ++ [.halt .stop], seq := .sStopped }

/-- R113, R114: a tick that does not stop drives, samples, counts, and latches the address of that
sample exactly when it shows ALE. R92: a sample shows, pin by pin, the environment's level where the block
releases the pin and the block's own level where it drives it (decision D17). -/
def Obligations.SIdleSamplesAndLatches : Prop :=
  (∀ (out tri e : Mask) (p : Pin), (sampled out tri e).getLsbD p.val =
    if tri.getLsbD p.val then e.getLsbD p.val else out.getLsbD p.val) ∧
  ∀ s : State, s.stopReq = false → (∀ n, s.tickLimit = some n → s.ticks < n) →
    s.padsOk 0 [(s.cfg.clkHigh, s.tri), (s.cfg.clkHigh, s.tri)] →
    let v := sampled s.cfg.clkHigh s.tri (s.envAt 1).levels
    let t : State :=
      { s.afterPads 2 with
        out := s.cfg.clkHigh, s1 := v, ticks := s.ticks + 1,
        events := s.events ++ [.drive s.cfg.clkHigh s.tri, .sample v], trace := s.sampleTrace }
    (s.cfg.lvl v .ale = s.cfg.aleActiveLevel → exec .sIdle s = .next
      { t with latch := { s.latch with addr := s.cfg.decodeAddress v }, seq := .sALow }) ∧
    (s.cfg.lvl v .ale ≠ s.cfg.aleActiveLevel → exec .sIdle s = .next { t with seq := .sILow })

/-- R115, R116: the two half-cycles of an idle tick. That it is a full period is the spec's decision D8. -/
def Obligations.EngineHalfCycles : Prop :=
  ∀ s : State,
    (s.padOk 0 s.cfg.clkLow s.tri →
      exec .sILow s = .next (s.droveTo s.cfg.clkLow s.tri .sIHigh)) ∧
    (s.padOk 0 s.cfg.clkHigh s.tri →
      exec .sIHigh s = .next (s.droveTo s.cfg.clkHigh s.tri .sIdle))

/-- R121: the rising edge, then the transfer of LATCH.DIR. -/
def Obligations.SAHighDispatches : Prop :=
  ∀ s : State, s.padOk 0 s.cfg.clkHigh s.tri →
    (s.latch.dir = .read →
      exec .sAHigh s = .next (s.droveTo s.cfg.clkHigh s.tri .sRdReq)) ∧
    (s.latch.dir = .write →
      exec .sAHigh s = .next (s.droveTo s.cfg.clkHigh s.tri .sWrCap))

/-- R117 to R120, R126, R160, R164: what S_A_LOW latches or raises, by the levels of RD, WR, BHE and A0.
That both strobes low is DirBoth is the spec's decision D6. -/
def Obligations.SALowDecodes : Prop :=
  ∀ s : State, s.padsOk 0 [(s.cfg.clkLow, s.tri), (s.cfg.clkLow, s.tri)] →
    let v := sampled s.cfg.clkLow s.tri (s.envAt 1).levels
    let t : State :=
      { s.afterPads 2 with
        out := s.cfg.clkLow, s2 := v,
        events := s.events ++ [.drive s.cfg.clkLow s.tri, .sample v], trace := s.sampleTrace }
    let rd := s.cfg.lvl v .rd
    let wr := s.cfg.lvl v .wr
    let bhe := s.cfg.lvl v .bhe
    let a0 := s.latch.addr.getLsbD 0
    let dw := assembleDw s.cfg v s.latch.addr
    let sp := if s.cfg.lvl v .mio = s.cfg.mioMemoryLevel then Space.memory else Space.io
    let dir := if rd then Direction.write else Direction.read
    (rd = true → wr = true → exec .sALow s = .next (raise .dirNone (.dw dw) t)) ∧
    (rd = false → wr = false → exec .sALow s = .next (raise .dirBoth (.dw dw) t)) ∧
    (rd ≠ wr → bhe = true → a0 = true → exec .sALow s = .next (raise .width (.dw dw) t)) ∧
    (rd ≠ wr → bhe = false → a0 = false →
      exec .sALow s = .next { t with latch := ⟨s.latch.addr, dir, sp, .word⟩, seq := .sAHigh }) ∧
    (rd ≠ wr → bhe = false → a0 = true →
      exec .sALow s =
        .next { t with latch := ⟨s.latch.addr, dir, sp, .upperByte⟩, seq := .sAHigh }) ∧
    (rd ≠ wr → bhe = true → a0 = false →
      exec .sALow s =
        .next { t with latch := ⟨s.latch.addr, dir, sp, .lowerByte⟩, seq := .sAHigh })

/-- R66: the six bits of DW. -/
def Obligations.DecodeWordBits : Prop :=
  ∀ (c : Config) (s2 : Mask) (a : Addr),
    (assembleDw c s2 a).getLsbD 5 = true ∧
    (assembleDw c s2 a).getLsbD 4 = c.lvl s2 .rd ∧
    (assembleDw c s2 a).getLsbD 3 = c.lvl s2 .wr ∧
    ((assembleDw c s2 a).getLsbD 2 = true ↔ c.lvl s2 .mio = c.mioMemoryLevel) ∧
    (assembleDw c s2 a).getLsbD 1 = c.lvl s2 .bhe ∧
    (assembleDw c s2 a).getLsbD 0 = a.getLsbD 0

/-- R68, R126, 92 D4: the decodes one after another give what the row that DW selects names. -/
def Obligations.SequentialDecodeIsTable : Prop :=
  ∀ (c : Config) (s2 : Mask) (a : Addr),
    (∀ i sp w, (i, sp, w) ∈ readOps →
      (decodeDw (assembleDw c s2 a) = .ok i ↔ decodeCycle c s2 a = .ok (.read, sp, w))) ∧
    (∀ i sp w, (i, sp, w) ∈ writeOps →
      (decodeDw (assembleDw c s2 a) = .ok i ↔ decodeCycle c s2 a = .ok (.write, sp, w))) ∧
    (∀ e, decodeCycle c s2 a = .error e ↔
      ∃ i, decodeDw (assembleDw c s2 a) = .ok i ∧
        errorCause i = some (e, assembleDw c s2 a))

/-- R122: a whole idle tick. The operation runs its shape whatever the samples show; `step` runs it only
when they show no ALE (log 18). -/
def Obligations.IdleTick : Prop :=
  ∀ (low : BitVec 5) (s : State),
    s.padsOk 0 [(s.cfg.clkHigh, s.tri), (s.cfg.clkHigh, s.tri), (s.cfg.clkLow, s.tri),
      (s.cfg.clkHigh, s.tri)] →
    let v := sampled s.cfg.clkHigh s.tri (s.envAt 1).levels
    exec (.idle low) s = .next
      { s.afterPads 4 with
        out := s.cfg.clkHigh, s1 := v, ticks := s.ticks + 1,
        events := s.events ++ [.drive s.cfg.clkHigh s.tri, .sample v, .drive s.cfg.clkLow s.tri,
          .drive s.cfg.clkHigh s.tri],
        trace := s.sampleTrace, seq := .sIdle }

/-- R123, R124, R125: an error encoding ends the run with its cause and its decode word. The operation
runs its shape whatever the samples show; `step` runs it only when they form `d` (log 18). -/
def Obligations.ErrorEncodingsAbort : Prop :=
  ∀ (i : Instr) (e : Err) (d : DecodeWord) (s : State), errorCause i = some (e, d) →
    s.cfg.wf = true → s.tri = s.cfg.triDefault →
    s.padsOk 0 [(s.cfg.clkHigh, s.tri), (s.cfg.clkHigh, s.tri), (s.cfg.clkLow, s.tri),
      (s.cfg.clkLow, s.tri)] →
    let v := sampled s.cfg.clkHigh s.tri (s.envAt 1).levels
    let u := sampled s.cfg.clkLow s.tri (s.envAt 3).levels
    exec i s = .next
      { s.afterPads 4 with
        out := s.cfg.clkLow, s1 := v, s2 := u, ticks := s.ticks + 1,
        latch := { s.latch with addr := s.cfg.decodeAddress v }, err := e, errInfo := .dw d,
        events := s.events ++ [.drive s.cfg.clkHigh s.tri, .sample v, .drive s.cfg.clkLow s.tri,
          .sample u, .halt (.error e)],
        trace := if s.verbose then s.trace ++ [.error e (.dw d)] else s.trace, seq := .sErr }

/-! ## Transfer Executor -/

/-- R131, R135: the request and the value of a read. R135 speaks of a `uint8` for a byte width; for an
answer beyond that range the shift without loss before the test against 65535, and the shifted value in
ERRINFO, are the model's reading (log 16). Under another backend, for which R48 promises nothing, that the
model's stores stay is its choice (log 8). -/
def Obligations.SRdReqForwardsAnswer : Prop :=
  ∀ (s : State) (r : Nat), s.waiting = false → s.padOk 0 s.out s.cfg.triDefault →
    s.answersRead s.latch.space s.latch.addr s.latch.width r →
    let t : State :=
      { s.afterPads 1 with
        tri := s.cfg.triDefault, answers := s.answers.tail,
        events := s.events ++ [.drive s.out s.cfg.triDefault,
          .read s.latch.space s.latch.addr s.latch.width r] }
    let v := match s.latch.width, s.cfg.ubReadShift with
      | .upperByte, .by8 => r * 256
      | _, _ => r
    (v ≤ 65535 →
      exec .sRdReq s = .next { t with data := BitVec.ofNat 16 v, seq := .sRdLow }) ∧
    (65535 < v → exec .sRdReq s = .next (raise .contractViolation (.value v) t))

/-- R189: a backend that never answers leaves the block in the state of the request, with the clock
high, and without a successor. That the hanging write has no event and changes no store, and that its
answer is used up, is the model's choice (log 8). -/
def Obligations.SilentBackendIsStuck : Prop :=
  ∀ s : State, s.waiting = false → s.answerNow = .silent → s.host = [] → s.unit = .micro →
    (s.seq = .sRdReq → s.padOk 0 s.out s.cfg.triDefault →
      ∃ t, step s = .next t ∧ t.seq = .sRdReq ∧ t.out = s.out ∧ t.tri = s.cfg.triDefault ∧
        t.events = s.events ++ [.drive s.out s.cfg.triDefault] ∧
        step t = .fault .backendSilent) ∧
    (s.seq = .sWrCap → s.padOk 0 s.out s.tri →
      ∃ t, step s = .next t ∧ t.seq = .sWrCap ∧ t.out = s.out ∧ t.tri = s.tri ∧
        t.s3 = s.sampleNow ∧ t.data = s.cfg.decodeData s.sampleNow ∧
        t.events = s.events ++ [.sample s.sampleNow] ∧ t.mem = s.mem ∧ t.io = s.io ∧
        t.answers = s.answers.tail ∧ step t = .fault .backendSilent)

/-- R132, R133, R134, R175: drive, hold, release. Which pins are driven, and that OUT's data bits are
cleared with the release, is the spec's decision D11; the trace record is its D25, and that the last
state of the tick writes it after its Drive is the model's reading (log 15). -/
def Obligations.ReadDrivesHoldsReleases : Prop :=
  ∀ s : State,
    (s.padOk 0 (s.cfg.clkLow ||| s.cfg.dataMask s.data) s.cfg.triRead →
      exec .sRdLow s = .next
        (s.droveTo (s.cfg.clkLow ||| s.cfg.dataMask s.data) s.cfg.triRead .sRdHigh)) ∧
    (s.padOk 0 (s.cfg.clkHigh ||| s.cfg.dataMask s.data) s.tri →
      exec .sRdHigh s = .next
        (s.droveTo (s.cfg.clkHigh ||| s.cfg.dataMask s.data) s.tri .sRdRel)) ∧
    (s.padOk 0 s.cfg.clkHigh s.cfg.triDefault →
      exec .sRdRel s = .next
        { s.droveTo s.cfg.clkHigh s.cfg.triDefault .sIdle with
          trace := if s.verbose then s.trace ++ [.transfer s.ticks s.latch s.data]
            else s.trace })

/-- R136: capture all sixteen bits and forward them whole. That a backend other than the reference one
leaves the store as it was is the model's choice (log 8). -/
def Obligations.SWrCapForwardsWhole : Prop :=
  ∀ (s : State) (m : Memory), s.waiting = false → s.padOk 0 s.out s.tri →
    let v := sampled s.out s.tri (s.envAt 0).levels
    let d := s.cfg.decodeData v
    s.acceptsWrite s.latch.space s.latch.addr d s.latch.width m →
    exec .sWrCap s = .next (State.withStore
      { s.afterPads 1 with
        s3 := v, data := d, answers := s.answers.tail, trace := s.sampleTrace,
        events := s.events ++ [.sample v, .write s.latch.space s.latch.addr d s.latch.width],
        seq := .sWrLow } s.latch.space m)

/-- R137, R138, R175: the two half-cycles that complete a write, without driving data. The trace record
is the spec's decision D25; that the last state of the tick writes it after its Drive is the model's
reading (log 15). -/
def Obligations.WriteTogglesTwice : Prop :=
  ∀ s : State,
    (s.padOk 0 s.cfg.clkLow s.tri →
      exec .sWrLow s = .next (s.droveTo s.cfg.clkLow s.tri .sWrHigh)) ∧
    (s.padOk 0 s.cfg.clkHigh s.tri →
      exec .sWrHigh s = .next
        { s.droveTo s.cfg.clkHigh s.tri .sIdle with
          trace := if s.verbose then s.trace ++ [.transfer s.ticks s.latch s.data] else s.trace })

/-- R139 to R145, R135: the six read operations, each a whole tick (log 18: as above). Answers beyond R44's
range are formed without loss (log 16, the model's reading). Under another backend, for which R48 promises
nothing, that the model's stores stay is its choice (log 8). -/
def Obligations.ReadOperations : Prop :=
  ∀ (i : Instr) (sp : Space) (w : Width), (i, sp, w) ∈ readOps → ∀ (s : State) (r : Nat),
    s.cfg.wf = true → s.tri = s.cfg.triDefault → s.waiting = false →
    s.answersRead sp (tickAddr s) w r → readValue s.cfg w r ≤ 65535 →
    s.padsOk 0 (readPads s.cfg (BitVec.ofNat 16 (readValue s.cfg w r))) →
    exec i s = .next (transferEnd s 9 (BitVec.ofNat 16 (readValue s.cfg w r))
      ⟨tickAddr s, .read, sp, w⟩
      (readEvents s sp w r (BitVec.ofNat 16 (readValue s.cfg w r))))

/-- R139, R146 to R151: the six write operations, each a whole tick (log 18: as above). That a backend
other than the reference one leaves the row's store as it was is the model's choice (log 8). -/
def Obligations.WriteOperations : Prop :=
  ∀ (i : Instr) (sp : Space) (w : Width), (i, sp, w) ∈ writeOps → ∀ (s : State) (m : Memory),
    s.cfg.wf = true → s.tri = s.cfg.triDefault → s.waiting = false →
    s.acceptsWrite sp (tickAddr s) (tickData s) w m → s.padsOk 0 (writePads s.cfg) →
    exec i s = .next (State.withStore
      { transferEnd s 8 (tickData s) ⟨tickAddr s, .write, sp, w⟩ (writeEvents s sp w) with
        s3 := sampled s.cfg.clkHigh s.cfg.triDefault (s.envAt 5).levels } sp m)

/-! ## Backend -/

/-- R46, R41: what the reference backend answers; missing bytes read 0. -/
def Obligations.ReferenceBackendReads : Prop :=
  ∀ (m : Memory) (a : Addr),
    (a.getLsbD 0 = false → ∃ v, m.read a .word = some v ∧
      v.extractLsb' 0 8 = m.byte a.toNat ∧ v.extractLsb' 8 8 = m.byte (a.toNat + 1)) ∧
    (m.read a .upperByte).map BitVec.toNat = some (m.byte a.toNat).toNat ∧
    (m.read a .lowerByte).map BitVec.toNat = some (m.byte a.toNat).toNat ∧
    ((∀ v, (a.toNat, v) ∉ m) → m.byte a.toNat = 0)

/-- R47: what a write to the reference backend leaves, byte by byte; every other byte is as before. -/
def Obligations.ReferenceBackendWrites : Prop :=
  ∀ (m : Memory) (a : Addr) (v : Data), m.wf = true →
    (a.getLsbD 0 = false → ∃ n, m.write a v .word = some n ∧ n.wf = true ∧ ∀ b,
      n.byte b = if b = a.toNat then v.extractLsb' 0 8
        else if b = a.toNat + 1 then v.extractLsb' 8 8 else m.byte b) ∧
    (∃ n, m.write a v .lowerByte = some n ∧ n.wf = true ∧ ∀ b,
      n.byte b = if b = a.toNat then v.extractLsb' 0 8 else m.byte b) ∧
    (∃ n, m.write a v .upperByte = some n ∧ n.wf = true ∧ ∀ b,
      n.byte b = if b = a.toNat then v.extractLsb' 8 8 else m.byte b)

/-- R56: a Word written reads back whole and by bytes, and a byte written into it changes that byte. -/
def Obligations.MixedSizesAgree : Prop :=
  ∀ (m n : Memory) (a b : Addr) (v u : Data), m.wf = true → a.getLsbD 0 = false →
    b.toNat = a.toNat + 1 → m.write a v .word = some n →
    n.read a .word = some v ∧
    n.read a .lowerByte = some ((v.extractLsb' 0 8).setWidth 16) ∧
    n.read b .upperByte = some ((v.extractLsb' 8 8).setWidth 16) ∧
    ∃ k, n.write b u .upperByte = some k ∧
      k.read a .word = some (u.extractLsb' 8 8 ++ v.extractLsb' 0 8)

/-- R46, R48, R40: only a Write cycle changes a store, and only the store of its space. For reads answered
by another backend R48 promises nothing: that the model's stores then stay is its choice (log 8). -/
def Obligations.OnlyWritesChangeStores : Prop :=
  ∀ (i : Instr) (s t : State), exec i s = .next t →
    (i ∉ [.sWrCap, .wrMW, .wrMUB, .wrMLB, .wrIoW, .wrIoUB, .wrIoLB] →
      t.mem = s.mem ∧ t.io = s.io) ∧
    (i ∈ [.wrMW, .wrMUB, .wrMLB] → t.io = s.io) ∧
    (i ∈ [.wrIoW, .wrIoUB, .wrIoLB] → t.mem = s.mem) ∧
    (i = .sWrCap → s.latch.space = .memory → t.io = s.io) ∧
    (i = .sWrCap → s.latch.space = .io → t.mem = s.mem)

/-! ## Errors, stops, environment premises -/

/-- R164: what raising does. -/
def Obligations.RaiseEntersErr : Prop :=
  ∀ (e : Err) (info : ErrInfo) (s : State),
    raise e info s =
      { s with
        err := e, errInfo := info, events := s.events ++ [.halt (.error e)], seq := .sErr,
        trace := if s.verbose then s.trace ++ [.error e info] else s.trace }

/-- R168, R164: S_STOPPED and S_ERR do nothing, in either unit of a step. -/
def Obligations.HaltedStatesAbsorb : Prop :=
  ∀ s : State,
    exec .sStopped s = .next s ∧ exec .sErr s = .next s ∧
    (s.host = [] → s.seq = .sStopped ∨ s.seq = .sErr → step s = .next s)

/-- R97, R163: a failing first pad primitive has no effect and raises AdapterIoError. -/
def Obligations.AdapterFailureAborts : Prop :=
  ∀ (i : Instr) (s : State) (p : Mask × Mask), firstPad i s = some p →
    (s.envAt 0).fails = true →
    exec i s = .next (raise .adapterIo .none (s.afterPads 1))

/-- R97, R163: when the Sample of S_A_LOW fails after its Drive, the Drive's effect stays and nothing is
decoded. -/
def Obligations.LateAdapterFailureKeepsEarlierWrites : Prop :=
  ∀ s : State, s.padOk 0 s.cfg.clkLow s.tri → (s.envAt 1).fails = true →
    exec .sALow s = .next (raise .adapterIo .none
      { s.afterPads 2 with
        out := s.cfg.clkLow, events := s.events ++ [.drive s.cfg.clkLow s.tri] })

/-- R96: a contended pad event is a fault of the environment premise, and contention is exactly a pin
the block drives and the processor drives at the other level. -/
def Obligations.ContentionIsFault : Prop :=
  (∀ (i : Instr) (s : State) (p : Mask × Mask), firstPad i s = some p →
    (s.envAt 0).fails = false → (s.envAt 0).contends p.1 p.2 = true →
    exec i s = .fault .contention) ∧
  ∀ (r : PadEnv) (out tri : Mask),
    r.contends out tri = true ↔
      ∃ p : Pin, r.drives.getLsbD p.val = true ∧ tri.getLsbD p.val = false ∧
        r.levels.getLsbD p.val ≠ out.getLsbD p.val

/-! ## The step and the host -/

/-- R13: with no host act pending, a micro step runs the action of SEQ, and a step that is a whole tick
runs, at S_IDLE when it does not stop, the operation of the decode word the samples form. The model's
choices in it: the field `unit` (log 1), the decode word read ahead of the tick with the five unsampled
bits of an idle tick 0 (log 13), and S_IDLE fetched when the tick would stop (log 19). -/
def Obligations.StepRunsDecoded : Prop :=
  ∀ s : State, s.host = [] →
    (∀ i, decode (fetch s).1 (fetch s).2 = .ok i → step s = exec i s) ∧
    (s.unit = .micro → step s = exec s.seq.instr s) ∧
    (s.unit = .tick → s.seq ≠ .sIdle → step s = exec s.seq.instr s) ∧
    (s.unit = .tick → s.seq = .sIdle → s.stopTest = true → step s = exec .sIdle s) ∧
    (s.unit = .tick → s.seq = .sIdle → s.stopTest = false →
      ∃ i, decodeDw s.nextDw = .ok i ∧ step s = exec i s)

/-- R13, 92 D5: a tick is the sequence of its micro steps. Taking ticks as steps changes no event, no
register and no stop. That a field `unit` of State says which of the two a step is, is the model's choice
(log 1). -/
def Obligations.TickIsItsMicroSteps : Prop :=
  ∀ s : State, s.seq = .sIdle → s.stopTest = false → s.host = [] →
    ∃ n, n ≤ 7 ∧
      Host.Core.run core n { s with unit := .micro } =
        outcomeMap (fun t => { t with unit := .micro }) (step { s with unit := .tick })

/-- R13, R25, R183, 93 U23: what the host may write between two steps. That a late write is refused, that
START, TICK_LIMIT and VERBOSE may be written again once a run has ended, and that the configuration may
change in S_OFF only, is the model's choice (log 10). -/
def Obligations.HostWrites : Prop :=
  ∀ (s : State) (rest : List HostAct),
    (∀ b, hostTurn { s with host := .writeStopReq b :: rest } =
      some { s with stopReq := b, host := rest }) ∧
    (s.seq.inRun = true → ∀ a, (∃ b, a = .writeStart b) ∨ (∃ n, a = .writeTickLimit n) ∨
      (∃ b, a = .writeVerbose b) →
      step { s with host := a :: rest } = .refused .hostWriteRefused) ∧
    (s.seq = .sOff ∨ s.seq = .sStopped ∨ s.seq = .sErr → ∀ b n,
      hostTurn { s with host := .writeStart b :: rest } =
        some { s with start := b, host := rest } ∧
      hostTurn { s with host := .writeTickLimit n :: rest } =
        some { s with tickLimit := n, host := rest } ∧
      hostTurn { s with host := .writeVerbose b :: rest } =
        some { s with verbose := b, host := rest }) ∧
    (∀ c, s.seq = .sOff →
      hostTurn { s with host := .configure c :: rest } = some { s with cfg := c, host := rest }) ∧
    (∀ c, s.seq ≠ .sOff →
      step { s with host := .configure c :: rest } = .refused .hostWriteRefused)

/-- R33, R180, R167: the block's own reset, from any state, gives the registers their power-on values.
The model's choice (log 10): it leaves the host's registers, the parameters and what belongs to the
backend and the environment, starts a new history and trace, and gives up a request that hangs. -/
def Obligations.BlockResetPowersOn : Prop :=
  ∀ (s : State) (rest : List HostAct), ∃ t,
    hostTurn { s with host := .blockReset :: rest } = some t ∧
    t.seq = .sOff ∧ t.out = 0 ∧ t.tri = BitVec.allOnes 160 ∧ t.supplyEn = false ∧ t.vccR = 0 ∧
    t.gndR = 0 ∧ t.rcnt = 0 ∧ t.ticks = 0 ∧ t.err = .none ∧ t.errInfo = .none ∧ t.start = s.start ∧
    t.stopReq = s.stopReq ∧ t.tickLimit = s.tickLimit ∧ t.verbose = s.verbose ∧ t.cfg = s.cfg ∧
    t.mem = s.mem ∧ t.io = s.io ∧ t.env = s.env ∧ t.answers = s.answers ∧ t.host = rest ∧
    t.events = [] ∧ t.trace = [] ∧ t.waiting = false

/-- R33: the values the spec gives for power-on. -/
def Obligations.PowerOnValues : Prop :=
  State.reset.seq = .sOff ∧ State.reset.out = 0 ∧
    (∀ p : Pin, State.reset.tri.getLsbD p.val = true) ∧ State.reset.supplyEn = false ∧
    State.reset.vccR = 0 ∧ State.reset.gndR = 0 ∧ State.reset.rcnt = 0 ∧ State.reset.ticks = 0 ∧
    State.reset.err = .none ∧ State.reset.errInfo = .none ∧ State.reset.start = false ∧
    State.reset.stopReq = false ∧ State.reset.tickLimit = none ∧ State.reset.verbose = false

/-! ## Invariants -/

/-- The reset state meets the invariant. -/
def Obligations.ResetMeetsInvariant : Prop := MachineInv State.reset

/-- Every step keeps the invariant, from every state that meets it. -/
def Obligations.StepKeepsInvariant : Prop :=
  ∀ s t : State, MachineInv s → step s = .next t → MachineInv t

/-- R35, R17, R33, R164: INV-CLK, INV-TRI, INV-AH, INV-DATA, INV-AD-HI of every state that meets
`MachineInv`. After an AdapterIoError S_ERR keeps the pads of any earlier state (R164), so INV-AH is said
there of steps: once AH is set, from the Drive of S_RS3 on, every step keeps it until the block's reset. -/
def Obligations.InvariantGivesPadInvariants : Prop :=
  (∀ s : State, MachineInv s →
    (s.seq = .sIdle → s.cfg.lvl s.out .clk = true ∧ s.tri = s.cfg.triDefault) ∧
    (s.seq ∉ [.sOff, .sRs1, .sRs2, .sRs3, .sErr] → s.out &&& s.cfg.ah = s.cfg.ah) ∧
    (s.seq ∉ [.sErr, .sOff, .sRs1] → s.tri ≠ s.cfg.triDefault →
      s.seq = .sRdHigh ∨ s.seq = .sRdRel) ∧
    (s.seq = .sOff ∨ s.seq = .sRs1 → s.out = 0 ∧ s.tri = BitVec.allOnes 160) ∧
    (s.seq = .sErr → s.err ≠ .adapterIo →
      s.tri = s.cfg.triDefault ∧ s.out &&& s.cfg.data16 = 0 ∧ s.out &&& s.cfg.ah = s.cfg.ah ∧
      (s.cfg.lvl s.out .clk = true ↔ s.err = .contractViolation)) ∧
    (s.seq ≠ .sErr → s.out &&& s.cfg.data16 ≠ 0 →
      (s.seq = .sRdHigh ∨ s.seq = .sRdRel) ∧ s.tri &&& s.cfg.data16 = 0) ∧
    (s.seq ≠ .sOff → ∀ n : Fin 20, 16 ≤ n.val → s.pinOut (s.cfg.pins.pin (.ad n)) = none)) ∧
  ∀ s t : State, MachineInv s → s.seq ∉ [.sOff, .sRs1, .sRs2, .sRs3] →
    (s.seq = .sErr → s.out &&& s.cfg.ah = s.cfg.ah) → step s = .next t →
    t.seq ∉ [.sOff, .sRs1] → t.out &&& t.cfg.ah = t.cfg.ah

/-- R35 INV-RESET: RESET is driven high exactly in the states between the Drive of S_RS4A and the Drive
of S_RS5A. -/
def Obligations.ResetPinHighOnlyUnderReset : Prop :=
  ∀ s : State, MachineInv s → s.seq ≠ .sErr →
    (s.cfg.lvl s.out .reset = true ↔ s.seq = .sRs4L ∨ s.seq = .sRs4H ∨ s.seq = .sRs5A)

/-- R152, R16, R164: who owns the address/data lines. Only an AdapterIoError can leave them driven in
S_ERR. R153: no step writes an over-drive record, since no Sample finds a data pin driven; where such a
record would stand, and that it holds TRI, is the model's reading (log 15). -/
def Obligations.DataLinesOwnedOnlyInRead : Prop :=
  (∀ (s : State) (n : Fin 20), MachineInv s → s.seq ≠ .sOff →
    s.pinOut (s.cfg.pins.pin (.ad n)) ≠ none →
    n.val < 16 ∧ (s.seq = .sRdHigh ∨ s.seq = .sRdRel ∨ s.seq = .sErr ∧ s.err = .adapterIo)) ∧
  ∀ (s t : State) (m : Mask), MachineInv s → step s = .next t →
    .overDrive m ∈ t.trace → .overDrive m ∈ s.trace

/-- R70, R71: the legal values of OUT and TRI. R17, R71: which pins AH, TRI_DEFAULT and TRI_READ hold, pin
by pin. R28, R192: an always-driven role besides CLK and RESET that is not always high, be it a named role
or an unnamed one, is held low from S_RS1's Drive on (unnamed roles: log 23). -/
def Obligations.LegalPadValues : Prop :=
  (∀ (c : Config) (p : Pin),
    (c.ah.getLsbD p.val = true ↔ ∃ r ∈ c.alwaysHigh, c.pins.pin r = p) ∧
    (c.triDefault.getLsbD p.val = true ↔ ∀ r ∈ c.alwaysDriven, c.pins.pin r ≠ p) ∧
    (c.triRead.getLsbD p.val = true ↔
      c.triDefault.getLsbD p.val = true ∧ ∀ n : Fin 20, n.val < 16 → c.pins.pin (.ad n) ≠ p)) ∧
  (∀ (s : State) (r : Role), MachineInv s → s.tri ≠ BitVec.allOnes 160 → r ∈ s.cfg.alwaysDriven →
    r ∉ s.cfg.alwaysHigh → r ≠ .clk → r ≠ .reset → s.pinOut (s.cfg.pins.pin r) = some false) ∧
  ∀ s : State, MachineInv s →
    (s.out = 0 ∨ ∃ k r : Bool, ∃ d : Data, ∃ m : Mask, (m = 0 ∨ m = s.cfg.dataMask d) ∧
      s.out = s.cfg.ah ||| (if k then s.cfg.bit .clk else 0) |||
        (if r then s.cfg.bit .reset else 0) ||| m) ∧
    (s.tri = BitVec.allOnes 160 ∨ s.tri = s.cfg.triDefault ∨ s.tri = s.cfg.triRead)

/-- R41, R42: a latched Word is even, so no step from a state that meets the invariant needs a byte
beyond the address space. -/
def Obligations.WordNeverLeavesSpace : Prop :=
  ∀ s : State, MachineInv s → step s ≠ .fault .addressOutside

/-! ## Whole-machine rules -/

/-- R12, R128: the successors of SEQ. -/
def Obligations.SuccessorsOfSeq : Prop :=
  ∀ s t : State, exec s.seq.instr s = .next t →
    t.seq ∈ s.seq.successors ∨ (t.seq = .sErr ∧ t.err = .adapterIo) ∨
      (t.seq = s.seq ∧ t.waiting = true)

/-- R30, R14, R15, R98: the history only grows, and (OUT, TRI) is what its pad events say. -/
def Obligations.HistoryGivesPads : Prop :=
  ∀ (i : Instr) (s t : State), exec i s = .next t →
    ∃ es, t.events = s.events ++ es ∧ (t.out, t.tri) = padsAfter (s.out, s.tri) es

/-- R43: an operation makes at most one backend request, and one that is not a transfer makes none. -/
def Obligations.OneRequestPerCycle : Prop :=
  ∀ (i : Instr) (s t : State), exec i s = .next t →
    ∃ es, t.events = s.events ++ es ∧ es.countP Event.isRequest ≤ 1 ∧
      (i ≠ .sRdReq → i ≠ .sWrCap → (∀ sp w, (i, sp, w) ∉ readOps ++ writeOps) →
        es.countP Event.isRequest = 0)

/-- R196: Drives, Samples and requests of a completed tick. -/
def Obligations.TickCosts : Prop :=
  ∀ (i : Instr) (s t : State), exec i s = .next t → t.seq = .sIdle →
    ∃ es, t.events = s.events ++ es ∧
      ((∃ low, i = .idle low) → es.countP Event.isDrive = 3 ∧ es.countP Event.isSample = 1 ∧
        es.countP Event.isRequest = 0) ∧
      ((∃ sp w, (i, sp, w) ∈ readOps) → es.countP Event.isDrive = 7 ∧
        es.countP Event.isSample = 2 ∧ es.countP Event.isRequest = 1) ∧
      ((∃ sp w, (i, sp, w) ∈ writeOps) → es.countP Event.isDrive = 5 ∧
        es.countP Event.isSample = 3 ∧ es.countP Event.isRequest = 1)

/-- R15: TRI is written only by S_RS1 and the three read states, among the SEQ actions. -/
def Obligations.TriWrittenOnlyByFourStates : Prop :=
  ∀ (q : Seq) (s t : State), q ∉ [.sRs1, .sRdReq, .sRdLow, .sRdRel] →
    exec q.instr s = .next t → t.tri = s.tri

/-- R25, R183, R27: no operation writes the host's registers or the parameters. -/
def Obligations.HostRegistersReadOnly : Prop :=
  ∀ (i : Instr) (s t : State), exec i s = .next t →
    t.start = s.start ∧ t.stopReq = s.stopReq ∧ t.tickLimit = s.tickLimit ∧
      t.verbose = s.verbose ∧ t.cfg = s.cfg ∧ t.host = s.host

/-- R128, R189: outside S_IDLE nothing depends on STOP_REQ or TICK_LIMIT. The rules say so of the actions of
SEQ; that a DW row, a tick that begins at S_IDLE, makes no stop test is the model's choice (log 19). -/
def Obligations.StopHasNoEffectInsideCycle : Prop :=
  ∀ (i : Instr) (s : State) (b : Bool) (n : Option Nat), i ≠ .sIdle →
    exec i { s with stopReq := b, tickLimit := n } =
      outcomeMap (fun t => { t with stopReq := b, tickLimit := n }) (exec i s)

/-- R25, R175: VERBOSE changes nothing but the trace port's output. -/
def Obligations.VerboseOnlyTraces : Prop :=
  ∀ (i : Instr) (s : State) (b : Bool),
    outcomeMap (fun t => { t with verbose := false, trace := [] })
        (exec i { s with verbose := b }) =
      outcomeMap (fun t => { t with verbose := false, trace := [] }) (exec i s)

/-! ## Codec and encodings -/

/-- R62, R63, R82, R83: the bits of the decoded address and data. -/
def Obligations.DecodersReadTheirRoles : Prop :=
  ∀ (c : Config) (m : Mask),
    (∀ n : Fin 20, (c.decodeAddress m).getLsbD n.val = m.getLsbD (c.pins.pin (.ad n)).val) ∧
    (∀ n : Fin 20, n.val < 16 →
      (c.decodeData m).getLsbD n.val = m.getLsbD (c.pins.pin (.ad n)).val) ∧
    c.decodeData m = (c.decodeAddress m).setWidth 16 ∧
    (∀ m' : Mask, m' &&& c.ad20 = m &&& c.ad20 → c.decodeAddress m' = c.decodeAddress m)

/-- R86 (a), (b), (c): the round-trip laws, for every assignment of the address/data roles to distinct
pins. R86 adds that (a) and (b) fail for any map in which two AD roles share a pin; that is narrowed here:
(b) fails then, and (a) fails when both roles carry data, since with AD0 and AD16 on one pin (a) holds. -/
def Obligations.CodecRoundTrips : Prop :=
  ∀ c : Config,
    ((∀ n k : Fin 20, c.pins.pin (.ad n) = c.pins.pin (.ad k) → n = k) →
      (∀ v : Data, c.decodeData (pinsBitmask (c.encodeDataToPins v)) = v) ∧
      (∀ a : Addr, c.decodeAddress (c.addrMask a) = a) ∧
      (∀ m : Mask, c.dataMask (c.decodeData m) = m &&& c.data16)) ∧
    (∀ n k : Fin 20, n ≠ k → c.pins.pin (.ad n) = c.pins.pin (.ad k) →
      (¬ ∀ a : Addr, c.decodeAddress (c.addrMask a) = a) ∧
      (n.val < 16 → k.val < 16 →
        ¬ ∀ v : Data, c.decodeData (pinsBitmask (c.encodeDataToPins v)) = v))

/-- R85: what dataMask is, and its two laws. -/
def Obligations.DataMaskLaws : Prop :=
  ∀ (c : Config) (v w : Data),
    c.dataMask v = pinsBitmask (c.encodeDataToPins v) ∧
    c.dataMask v &&& ~~~ c.data16 = 0 ∧ c.dataMask (v ||| w) = c.dataMask v ||| c.dataMask w

/-- R68: every decode word selects exactly one of the 17 rows. -/
def Obligations.DwTableIsExact : Prop :=
  dwTable.length = 17 ∧ ∀ d : DecodeWord, (dwTable.filter (·.selects d)).length = 1

/-- R68, R12: some words of the table, as the spec writes them. -/
def Obligations.SampleWordsDecode : Prop :=
  decode .dw 0b00101100 = .ok .rdMW ∧ decode .dw 0b00101001 = .ok .rdIoUB ∧
    decode .dw 0b00110110 = .ok .wrMLB ∧ decode .dw 0b00111100 = .ok (.errDirNone 0b100) ∧
    decode .dw 0b00101111 = .ok (.errWidthRd 1) ∧ decode .sq 0b00001101 = .ok .sALow ∧
    decode .sq 0b00010111 = .ok .sErr ∧ decode .sq 0b00011000 = .error .reservedSeqCode

/-- Decoding an encoded operation gives it back, for all 41 rows and every operand. -/
def Obligations.DecodeEncode : Prop :=
  ∀ i : Instr, i.wf = true → decode (encode i).1 (encode i).2 = .ok i

/-- A word that decodes is the encoding of what it decodes to: no word has two meanings. -/
def Obligations.EncodeDecode : Prop :=
  ∀ (f : Format) (w : Word) (i : Instr), decode f w = .ok i → encode i = (f, w)

/-! ## Realisation over the adapter's calls -/

/-- R94: the calls of a Drive leave the adapter with the Drive's pair. On the way no pin becomes driven at
a level other than its new one, and in a Drive that enables no driver a pin to be released shows, while it
is still driven, no level but its old one. S_RD_REQ's Drive keeps OUT and is one call, a Drive that keeps
TRI is one call. A Drive that both enables and releases, which no rule issues, is given the order of an
enabling one (log 21). R90, R95: the calls of the other events, and what every event's calls leave. -/
def Obligations.AdapterCallsRealiseDrive : Prop :=
  (∀ (q : Seq) (old out tri : Mask) (prev : Mask),
    (q = .sRdReq → prev = out) →
    (driveCalls q old out tri).foldl callPads (prev, old) = (out, tri) ∧
    ∀ calls rest, driveCalls q old out tri = calls ++ rest → ∀ p : Pin,
      let mid := calls.foldl callPads (prev, old)
      (old.getLsbD p.val = true → mid.2.getLsbD p.val = false →
        mid.1.getLsbD p.val = out.getLsbD p.val) ∧
      (old &&& ~~~ tri = 0 → tri.getLsbD p.val = true → mid.2.getLsbD p.val = false →
        mid.1.getLsbD p.val = prev.getLsbD p.val)) ∧
  (∀ (q : Seq) (out tri : Mask),
    driveCalls .sRdReq tri out tri = [.setTriState tri] ∧
    (q ≠ .sRdReq → driveCalls q tri out tri = [.writeOutputs out])) ∧
  (∀ (q : Seq) (old : Mask) (level : SupplyLevel) (vcc gnd : Mask) (v : Mask),
    eventCalls q old .init = [.init] ∧ eventCalls q old (.sample v) = [.readInputs] ∧
    eventCalls q old (.power level vcc gnd) =
      [.setSupplyVoltageLevel level, .setSupplyPins vcc, .setGroundPins gnd, .enableSupply]) ∧
  ∀ (q : Seq) (prev old : Mask) (e : Event), (q = .sRdReq → ∀ out tri, e = .drive out tri → prev = out) →
    (eventCalls q old e).foldl callPads (prev, old) = padsAfter (prev, old) [e]
end

