-- ==== Sys2Proof/Laws/Codec.lean ====
section
/-! SUPPORT. The pin codec bit by bit (spec/40_pin_codec.md R80 to R86) and what a well-formed
configuration says of its masks (spec/10_state.md R17, R27, R35). -/

namespace Sys2Proof

theorem getLsbD_pinBit (p : Pin) (i : Nat) : (pinBit p).getLsbD i = decide (p.val = i) := by
  have := p.isLt
  simp only [pinBit, BitVec.getLsbD_twoPow]
  by_cases h : p.val = i
  · simp [h]; omega
  · simp [h]

/-- A bit of `pinsBitmask` is set exactly when some pin of the collection has it (R81). -/
theorem getLsbD_pinsBitmask (ps : List Pin) (i : Nat) :
    (pinsBitmask ps).getLsbD i = ps.any fun p => decide (p.val = i) := by
  induction ps with
  | nil => simp [pinsBitmask]
  | cons p ps ih =>
    have : pinsBitmask (p :: ps) = pinBit p ||| pinsBitmask ps := rfl
    simp [this, ih, getLsbD_pinBit]

theorem getLsbD_gather (c : Config) (w : Nat) (m : Mask) (ns : List (Fin 20)) (i : Nat)
    (hi : i < w) :
    (c.gather w m ns).getLsbD i = ns.any fun n => decide (n.val = i) && c.lvl m (.ad n) := by
  induction ns with
  | nil => simp [Config.gather]
  | cons n ns ih =>
    have hg : c.gather w m (n :: ns) =
        (if c.lvl m (.ad n) then BitVec.twoPow w n.val else 0) ||| c.gather w m ns := rfl
    rw [hg, BitVec.getLsbD_or, ih]
    cases h : c.lvl m (.ad n)
    · simp [h]
    · simp only [if_true, BitVec.getLsbD_twoPow, List.any_cons, h, Bool.and_true]
      by_cases hn : n.val = i
      · simp [hn, hi]
      · simp [hn]

/-- Bit n of the decoded address is the level of ADn (30_encoding.md R62). -/
theorem getLsbD_decodeAddress (c : Config) (m : Mask) (n : Fin 20) :
    (c.decodeAddress m).getLsbD n.val = c.lvl m (.ad n) := by
  rw [Config.decodeAddress, getLsbD_gather _ _ _ _ _ n.isLt]
  revert n
  simp [adIndex, Fin.forall_fin_succ]

/-- Bit n of the decoded data is the level of ADn, n < 16 (30_encoding.md R63). -/
theorem getLsbD_decodeData (c : Config) (m : Mask) (n : Fin 20) (hn : n.val < 16) :
    (c.decodeData m).getLsbD n.val = c.lvl m (.ad n) := by
  rw [Config.decodeData, getLsbD_gather _ _ _ _ _ hn]
  revert n
  simp [dataIndex, Fin.forall_fin_succ]

theorem mem_adIndex (n : Fin 20) : n ∈ adIndex := by
  revert n; simp [adIndex, Fin.forall_fin_succ]

theorem mem_dataIndex (n : Fin 20) : n ∈ dataIndex ↔ n.val < 16 := by
  revert n; simp [dataIndex, Fin.forall_fin_succ]

/-- A role is a named one or an unnamed one, which carries its pin (10_state.md R28, log 23). -/
theorem mem_roleAll_or_other (r : Role) : r ∈ Role.all ∨ ∃ p, r = .other p := by
  cases r with
  | ad n => exact .inl (List.mem_append_left _ (List.mem_map.mpr ⟨n, mem_adIndex n, rfl⟩))
  | other p => exact .inr ⟨p, rfl⟩
  | _ => exact .inl (by simp [Role.all, controlRoles])

theorem mem_roles_ad (c : Config) (n : Fin 20) : .ad n ∈ c.roles :=
  List.mem_append_left _ (List.mem_append_left _ (List.mem_map.mpr ⟨n, mem_adIndex n, rfl⟩))

theorem mem_roles_of_driven {c : Config} {r : Role} (h : r ∈ c.alwaysDriven) : r ∈ c.roles :=
  List.mem_append_right _ h

/-- The eight checks of a well-formed configuration. -/
theorem wf_parts {c : Config} (h : c.wf = true) :
    c.injectiveOk = true ∧ c.rolesOffSupply = true ∧ c.supplyDisjoint = true ∧
      c.resetCyclesOk = true ∧ c.alwaysHighOk = true ∧ c.alwaysDrivenOk = true ∧
      c.drivenNotSampled = true ∧ c.clockResetFree = true := by
  simpa [Config.wf, Bool.and_eq_true, and_assoc] using h

/-- Distinct roles but WR and LOCK have distinct pins (10_state.md R27). -/
theorem pin_injective {c : Config} (h : c.wf = true) {r q : Role} (hr : r ∈ c.roles)
    (hq : q ∈ c.roles) (hp : c.pins.pin r = c.pins.pin q) :
    r = q ∨ duplicatePair r q = true := by
  have hi := (wf_parts h).1
  simp only [Config.injectiveOk, List.all_eq_true, Bool.or_eq_true, beq_iff_eq, bne_iff_ne] at hi
  rcases hi r hr q hq with (h1 | h1) | h1
  · exact .inl h1
  · exact .inr h1
  · exact absurd hp h1

theorem ad_pin_injective {c : Config} (h : c.wf = true) {n k : Fin 20}
    (hp : c.pins.pin (.ad n) = c.pins.pin (.ad k)) : n = k := by
  rcases pin_injective h (mem_roles_ad c n) (mem_roles_ad c k) hp with h1 | h1
  · exact Role.ad.inj h1
  · simp [duplicatePair] at h1

/-- RESET_CYCLES is at least 4 (R106). -/
theorem resetCycles_ge {c : Config} (h : c.wf = true) : 4 ≤ c.resetCycles := by
  have := (wf_parts h).2.2.2.1
  simpa [Config.resetCyclesOk] using this

theorem getLsbD_roleMask (c : Config) (rs : List Role) (i : Nat) :
    (c.roleMask rs).getLsbD i = rs.any fun r => decide ((c.pins.pin r).val = i) := by
  simp [Config.roleMask, getLsbD_pinsBitmask, List.any_map, Function.comp_def]

/-- An always-driven role has no pin of a sampled or address/data role (10_state.md R17). -/
theorem driven_ne_sampled {c : Config} (h : c.wf = true) {r q : Role} (hr : r ∈ c.alwaysDriven)
    (hq : q ∈ adIndex.map Role.ad ++ sampledRoles) : c.pins.pin r ≠ c.pins.pin q := by
  have hd := (wf_parts h).2.2.2.2.2.2.1
  simp only [Config.drivenNotSampled, List.all_eq_true, bne_iff_ne] at hd
  exact hd r hr q hq

/-- The pins of the address/data and of the sampled roles are released by TRI_DEFAULT (R17). -/
theorem triDefault_sampled {c : Config} (h : c.wf = true) {q : Role}
    (hq : q ∈ adIndex.map Role.ad ++ sampledRoles) :
    c.triDefault.getLsbD (c.pins.pin q).val = true := by
  have hlt := (c.pins.pin q).isLt
  simp only [Config.triDefault, BitVec.getLsbD_not, getLsbD_roleMask, hlt, decide_true,
    Bool.true_and, Bool.not_eq_true', List.any_eq_false, decide_eq_true_eq]
  intro r hr he
  exact driven_ne_sampled h hr hq (Fin.ext he)

theorem ad_mem_sampled (n : Fin 20) : Role.ad n ∈ adIndex.map Role.ad ++ sampledRoles :=
  List.mem_append_left _ (List.mem_map.mpr ⟨n, mem_adIndex n, rfl⟩)

/-- TRI_DEFAULT releases all sixteen data pins. -/
theorem triDefault_data16 {c : Config} (h : c.wf = true) :
    c.triDefault &&& c.data16 = c.data16 := by
  apply BitVec.eq_of_getLsbD_eq
  intro i hi
  have hg : c.data16.getLsbD i = true → c.triDefault.getLsbD i = true := by
    intro hb
    simp only [Config.data16, getLsbD_roleMask, List.any_eq_true, decide_eq_true_eq] at hb
    obtain ⟨r, hr, he⟩ := hb
    obtain ⟨n, -, rfl⟩ := List.mem_map.mp hr
    rw [← he]
    exact triDefault_sampled h (ad_mem_sampled n)
  rw [BitVec.getLsbD_and]
  cases hb : c.data16.getLsbD i
  · simp
  · simp [hg hb]

/-- A data pin of `dataMask v` is set exactly when its bit of `v` is (R84, R85). -/
theorem lvl_dataMask {c : Config} (h : c.wf = true) (v : Data) (n : Fin 20) (hn : n.val < 16) :
    c.lvl (c.dataMask v) (.ad n) = v.getLsbD n.val := by
  rw [Bool.eq_iff_iff]
  simp only [Config.lvl, Config.dataMask, getLsbD_pinsBitmask, Config.encodeDataToPins,
    List.any_map, List.any_eq_true, List.mem_filter, Function.comp_apply, decide_eq_true_eq]
  constructor
  · rintro ⟨k, ⟨-, hv⟩, he⟩
    rwa [ad_pin_injective h (Fin.ext he)] at hv
  · intro hv
    exact ⟨n, ⟨(mem_dataIndex n).mpr hn, hv⟩, rfl⟩

/-- `dataMask` sets no bit outside DATA16 (R85). -/
theorem dataMask_sub_data16 (c : Config) (v : Data) : c.dataMask v &&& ~~~ c.data16 = 0 := by
  apply BitVec.eq_of_getLsbD_eq
  intro i hi
  rw [BitVec.getLsbD_and, BitVec.getLsbD_not, show (0 : Mask).getLsbD i = false by simp]
  cases hb : (c.dataMask v).getLsbD i
  · simp
  · have : c.data16.getLsbD i = true := by
      simp only [Config.dataMask, getLsbD_pinsBitmask, Config.encodeDataToPins, List.any_map,
        List.any_eq_true, List.mem_filter, Function.comp_apply, decide_eq_true_eq] at hb
      obtain ⟨k, ⟨hk, -⟩, he⟩ := hb
      simp only [Config.data16, getLsbD_roleMask, List.any_map, List.any_eq_true,
        Function.comp_apply, decide_eq_true_eq]
      exact ⟨k, hk, he⟩
    simp [this]

theorem mem_alwaysDriven {c : Config} (h : c.wf = true) :
    (∀ r ∈ c.alwaysHigh, r ∈ c.alwaysDriven) ∧ Role.clk ∈ c.alwaysDriven ∧
      Role.reset ∈ c.alwaysDriven := by
  have hd := (wf_parts h).2.2.2.2.2.1
  simpa [Config.alwaysDrivenOk, Bool.and_eq_true, List.all_eq_true, and_assoc] using hd

/-- The mask of one role has exactly its pin (R80). -/
theorem getLsbD_bit (c : Config) (r : Role) (p : Pin) :
    (c.bit r).getLsbD p.val = true ↔ c.pins.pin r = p := by
  rw [Config.bit, pinBit, BitVec.getLsbD_twoPow]
  simp only [Bool.and_eq_true, decide_eq_true_eq, Fin.ext_iff]
  exact ⟨fun h => h.2, fun h => ⟨(c.pins.pin r).isLt, h⟩⟩

/-- A mask of always-driven roles has no data pin (10_state.md R17, R35). -/
theorem roleMask_data16 {c : Config} (h : c.wf = true) {rs : List Role}
    (hs : ∀ r ∈ rs, r ∈ c.alwaysDriven) : c.roleMask rs &&& c.data16 = 0 := by
  apply BitVec.eq_of_getLsbD_eq
  intro i hi
  rw [BitVec.getLsbD_and, show (0 : Mask).getLsbD i = false from BitVec.getLsbD_zero,
    Bool.eq_false_iff, ne_eq, Bool.and_eq_true, Config.data16, getLsbD_roleMask, getLsbD_roleMask]
  simp only [List.any_eq_true, decide_eq_true_eq]
  rintro ⟨⟨r, hr, e⟩, q, hq, e'⟩
  obtain ⟨n, -, rfl⟩ := List.mem_map.mp hq
  exact driven_ne_sampled h (hs r hr) (ad_mem_sampled n) (Fin.ext (e.trans e'.symm))

end Sys2Proof
end

