-- ==== Sys2Proof/Laws/Decode.lean ====
section
/-! SUPPORT. The decoder on the words a step fetches (spec/10_state.md R12, spec/30_encoding.md R68). -/

namespace Sys2Proof

theorem ofCode_code (q : Seq) : Seq.ofCode q.code = some q := by cases q <;> rfl

/-- A step never fetches a reserved SEQ code. -/
theorem decode_sqWord (q : Seq) : decode .sq (sqWord q) = .ok q.instr := by cases q <;> rfl

/-- The DW table is total (R68: every one of the 64 values selects a row). -/
theorem decodeDw_total : ∀ d : DecodeWord, ∃ i, decodeDw d = .ok i := by
  have h : ∀ d : DecodeWord, (decodeDw d).toBool = true := by decide +kernel
  intro d
  cases hd : decodeDw d with
  | ok i => exact ⟨i, rfl⟩
  | error e => have := h d; rw [hd] at this; cases this

theorem decode_dwWord (d : DecodeWord) : decode .dw (dwWord d) = decodeDw d := by
  have h1 : (dwWord d).toNat < 64 := by
    have := d.isLt
    simp only [dwWord, BitVec.toNat_setWidth]
    omega
  have h2 : (dwWord d).setWidth 6 = d := by
    apply BitVec.eq_of_toNat_eq
    have := d.isLt
    simp only [dwWord, BitVec.toNat_setWidth]
    omega
  simp only [decode, h1, if_true, h2]

end Sys2Proof
end

