-- ==== Sys2Proof/Laws/State.lean ====
section
/-! SUPPORT. One lemma per field that a named update changes or leaves, true by rfl, so that no proof
unfolds a record update; and the environment as later updates see it. -/

namespace Sys2Proof.Machine

section TookEnv
variable (s : State)

@[simp] theorem tookEnv_seq : s.tookEnv.seq = s.seq := rfl
@[simp] theorem tookEnv_out : s.tookEnv.out = s.out := rfl
@[simp] theorem tookEnv_tri : s.tookEnv.tri = s.tri := rfl
@[simp] theorem tookEnv_s1 : s.tookEnv.s1 = s.s1 := rfl
@[simp] theorem tookEnv_s2 : s.tookEnv.s2 = s.s2 := rfl
@[simp] theorem tookEnv_s3 : s.tookEnv.s3 = s.s3 := rfl
@[simp] theorem tookEnv_latch : s.tookEnv.latch = s.latch := rfl
@[simp] theorem tookEnv_data : s.tookEnv.data = s.data := rfl
@[simp] theorem tookEnv_rcnt : s.tookEnv.rcnt = s.rcnt := rfl
@[simp] theorem tookEnv_ticks : s.tookEnv.ticks = s.ticks := rfl
@[simp] theorem tookEnv_err : s.tookEnv.err = s.err := rfl
@[simp] theorem tookEnv_errInfo : s.tookEnv.errInfo = s.errInfo := rfl
@[simp] theorem tookEnv_start : s.tookEnv.start = s.start := rfl
@[simp] theorem tookEnv_stopReq : s.tookEnv.stopReq = s.stopReq := rfl
@[simp] theorem tookEnv_tickLimit : s.tookEnv.tickLimit = s.tickLimit := rfl
@[simp] theorem tookEnv_verbose : s.tookEnv.verbose = s.verbose := rfl
@[simp] theorem tookEnv_vlevelR : s.tookEnv.vlevelR = s.vlevelR := rfl
@[simp] theorem tookEnv_vccR : s.tookEnv.vccR = s.vccR := rfl
@[simp] theorem tookEnv_gndR : s.tookEnv.gndR = s.gndR := rfl
@[simp] theorem tookEnv_supplyEn : s.tookEnv.supplyEn = s.supplyEn := rfl
@[simp] theorem tookEnv_events : s.tookEnv.events = s.events := rfl
@[simp] theorem tookEnv_trace : s.tookEnv.trace = s.trace := rfl
@[simp] theorem tookEnv_mem : s.tookEnv.mem = s.mem := rfl
@[simp] theorem tookEnv_io : s.tookEnv.io = s.io := rfl
@[simp] theorem tookEnv_cfg : s.tookEnv.cfg = s.cfg := rfl
@[simp] theorem tookEnv_env : s.tookEnv.env = s.env.drop 1 := rfl
@[simp] theorem tookEnv_draws : s.tookEnv.draws = s.draws + 1 := rfl
@[simp] theorem tookEnv_answers : s.tookEnv.answers = s.answers := rfl
@[simp] theorem tookEnv_host : s.tookEnv.host = s.host := rfl
@[simp] theorem tookEnv_waiting : s.tookEnv.waiting = s.waiting := rfl
@[simp] theorem tookEnv_unit : s.tookEnv.unit = s.unit := rfl

/-- Taking a record moves every later one forward. -/
@[simp] theorem tookEnv_envAt (k : Nat) : s.tookEnv.envAt k = s.envAt (k + 1) := by
  simp [State.envAt, Nat.add_comm, Nat.add_left_comm]

@[simp] theorem tookEnv_stopTest : s.tookEnv.stopTest = s.stopTest := rfl
@[simp] theorem tookEnv_answerNow : s.tookEnv.answerNow = s.answerNow := rfl
@[simp] theorem tookEnv_sampleTrace : s.tookEnv.sampleTrace = s.sampleTrace := rfl

end TookEnv

section PadDrive
variable (s : State) (out tri : Mask)

@[simp] theorem padDrive_out : (s.padDrive out tri).out = out := rfl
@[simp] theorem padDrive_tri : (s.padDrive out tri).tri = tri := rfl
@[simp] theorem padDrive_events :
    (s.padDrive out tri).events = s.events ++ [.drive out tri] := rfl
@[simp] theorem padDrive_seq : (s.padDrive out tri).seq = s.seq := rfl
@[simp] theorem padDrive_s1 : (s.padDrive out tri).s1 = s.s1 := rfl
@[simp] theorem padDrive_s2 : (s.padDrive out tri).s2 = s.s2 := rfl
@[simp] theorem padDrive_s3 : (s.padDrive out tri).s3 = s.s3 := rfl
@[simp] theorem padDrive_latch : (s.padDrive out tri).latch = s.latch := rfl
@[simp] theorem padDrive_data : (s.padDrive out tri).data = s.data := rfl
@[simp] theorem padDrive_rcnt : (s.padDrive out tri).rcnt = s.rcnt := rfl
@[simp] theorem padDrive_ticks : (s.padDrive out tri).ticks = s.ticks := rfl
@[simp] theorem padDrive_err : (s.padDrive out tri).err = s.err := rfl
@[simp] theorem padDrive_errInfo : (s.padDrive out tri).errInfo = s.errInfo := rfl
@[simp] theorem padDrive_verbose : (s.padDrive out tri).verbose = s.verbose := rfl
@[simp] theorem padDrive_supplyEn : (s.padDrive out tri).supplyEn = s.supplyEn := rfl
@[simp] theorem padDrive_trace : (s.padDrive out tri).trace = s.trace := rfl
@[simp] theorem padDrive_mem : (s.padDrive out tri).mem = s.mem := rfl
@[simp] theorem padDrive_io : (s.padDrive out tri).io = s.io := rfl
@[simp] theorem padDrive_cfg : (s.padDrive out tri).cfg = s.cfg := rfl
@[simp] theorem padDrive_env : (s.padDrive out tri).env = s.env := rfl
@[simp] theorem padDrive_draws : (s.padDrive out tri).draws = s.draws := rfl
@[simp] theorem padDrive_answers : (s.padDrive out tri).answers = s.answers := rfl
@[simp] theorem padDrive_waiting : (s.padDrive out tri).waiting = s.waiting := rfl
@[simp] theorem padDrive_envAt (k : Nat) : (s.padDrive out tri).envAt k = s.envAt k := rfl
@[simp] theorem padDrive_answerNow : (s.padDrive out tri).answerNow = s.answerNow := rfl
@[simp] theorem padDrive_start : (s.padDrive out tri).start = s.start := rfl
@[simp] theorem padDrive_stopReq : (s.padDrive out tri).stopReq = s.stopReq := rfl
@[simp] theorem padDrive_tickLimit : (s.padDrive out tri).tickLimit = s.tickLimit := rfl
@[simp] theorem padDrive_vlevelR : (s.padDrive out tri).vlevelR = s.vlevelR := rfl
@[simp] theorem padDrive_vccR : (s.padDrive out tri).vccR = s.vccR := rfl
@[simp] theorem padDrive_gndR : (s.padDrive out tri).gndR = s.gndR := rfl
@[simp] theorem padDrive_host : (s.padDrive out tri).host = s.host := rfl
@[simp] theorem padDrive_unit : (s.padDrive out tri).unit = s.unit := rfl

end PadDrive

section PadSample
variable (s : State) (v : Mask)

@[simp] theorem padSample_out : (s.padSample v).out = s.out := rfl
@[simp] theorem padSample_tri : (s.padSample v).tri = s.tri := rfl
@[simp] theorem padSample_events : (s.padSample v).events = s.events ++ [.sample v] := rfl
@[simp] theorem padSample_trace : (s.padSample v).trace = s.sampleTrace := rfl
@[simp] theorem padSample_seq : (s.padSample v).seq = s.seq := rfl
@[simp] theorem padSample_latch : (s.padSample v).latch = s.latch := rfl
@[simp] theorem padSample_data : (s.padSample v).data = s.data := rfl
@[simp] theorem padSample_ticks : (s.padSample v).ticks = s.ticks := rfl
@[simp] theorem padSample_err : (s.padSample v).err = s.err := rfl
@[simp] theorem padSample_verbose : (s.padSample v).verbose = s.verbose := rfl
@[simp] theorem padSample_cfg : (s.padSample v).cfg = s.cfg := rfl
@[simp] theorem padSample_env : (s.padSample v).env = s.env := rfl
@[simp] theorem padSample_draws : (s.padSample v).draws = s.draws := rfl
@[simp] theorem padSample_mem : (s.padSample v).mem = s.mem := rfl
@[simp] theorem padSample_io : (s.padSample v).io = s.io := rfl
@[simp] theorem padSample_waiting : (s.padSample v).waiting = s.waiting := rfl
@[simp] theorem padSample_envAt (k : Nat) : (s.padSample v).envAt k = s.envAt k := rfl
@[simp] theorem padSample_answerNow : (s.padSample v).answerNow = s.answerNow := rfl
@[simp] theorem padSample_s1 : (s.padSample v).s1 = s.s1 := rfl
@[simp] theorem padSample_s2 : (s.padSample v).s2 = s.s2 := rfl
@[simp] theorem padSample_s3 : (s.padSample v).s3 = s.s3 := rfl
@[simp] theorem padSample_rcnt : (s.padSample v).rcnt = s.rcnt := rfl
@[simp] theorem padSample_errInfo : (s.padSample v).errInfo = s.errInfo := rfl
@[simp] theorem padSample_start : (s.padSample v).start = s.start := rfl
@[simp] theorem padSample_stopReq : (s.padSample v).stopReq = s.stopReq := rfl
@[simp] theorem padSample_tickLimit : (s.padSample v).tickLimit = s.tickLimit := rfl
@[simp] theorem padSample_vlevelR : (s.padSample v).vlevelR = s.vlevelR := rfl
@[simp] theorem padSample_vccR : (s.padSample v).vccR = s.vccR := rfl
@[simp] theorem padSample_gndR : (s.padSample v).gndR = s.gndR := rfl
@[simp] theorem padSample_supplyEn : (s.padSample v).supplyEn = s.supplyEn := rfl
@[simp] theorem padSample_answers : (s.padSample v).answers = s.answers := rfl
@[simp] theorem padSample_host : (s.padSample v).host = s.host := rfl
@[simp] theorem padSample_unit : (s.padSample v).unit = s.unit := rfl

end PadSample

section Raise
variable (e : Err) (i : ErrInfo) (s : State)

@[simp] theorem raise_seq : (raise e i s).seq = .sErr := rfl
@[simp] theorem raise_err : (raise e i s).err = e := rfl
@[simp] theorem raise_errInfo : (raise e i s).errInfo = i := rfl
@[simp] theorem raise_out : (raise e i s).out = s.out := rfl
@[simp] theorem raise_tri : (raise e i s).tri = s.tri := rfl
@[simp] theorem raise_events : (raise e i s).events = s.events ++ [.halt (.error e)] := rfl
@[simp] theorem raise_trace : (raise e i s).trace = s.traced (.error e i) := rfl
@[simp] theorem raise_latch : (raise e i s).latch = s.latch := rfl
@[simp] theorem raise_data : (raise e i s).data = s.data := rfl
@[simp] theorem raise_rcnt : (raise e i s).rcnt = s.rcnt := rfl
@[simp] theorem raise_ticks : (raise e i s).ticks = s.ticks := rfl
@[simp] theorem raise_mem : (raise e i s).mem = s.mem := rfl
@[simp] theorem raise_io : (raise e i s).io = s.io := rfl
@[simp] theorem raise_cfg : (raise e i s).cfg = s.cfg := rfl
@[simp] theorem raise_env : (raise e i s).env = s.env := rfl
@[simp] theorem raise_waiting : (raise e i s).waiting = s.waiting := rfl
@[simp] theorem raise_supplyEn : (raise e i s).supplyEn = s.supplyEn := rfl
@[simp] theorem raise_vlevelR : (raise e i s).vlevelR = s.vlevelR := rfl
@[simp] theorem raise_vccR : (raise e i s).vccR = s.vccR := rfl
@[simp] theorem raise_gndR : (raise e i s).gndR = s.gndR := rfl
@[simp] theorem raise_s1 : (raise e i s).s1 = s.s1 := rfl
@[simp] theorem raise_s2 : (raise e i s).s2 = s.s2 := rfl
@[simp] theorem raise_s3 : (raise e i s).s3 = s.s3 := rfl
@[simp] theorem raise_start : (raise e i s).start = s.start := rfl
@[simp] theorem raise_stopReq : (raise e i s).stopReq = s.stopReq := rfl
@[simp] theorem raise_tickLimit : (raise e i s).tickLimit = s.tickLimit := rfl
@[simp] theorem raise_verbose : (raise e i s).verbose = s.verbose := rfl
@[simp] theorem raise_draws : (raise e i s).draws = s.draws := rfl
@[simp] theorem raise_answers : (raise e i s).answers = s.answers := rfl
@[simp] theorem raise_host : (raise e i s).host = s.host := rfl
@[simp] theorem raise_unit : (raise e i s).unit = s.unit := rfl

end Raise

section PadInit
variable (s : State)

@[simp] theorem padInit_seq : s.padInit.seq = s.seq := rfl
@[simp] theorem padInit_out : s.padInit.out = 0 := rfl
@[simp] theorem padInit_tri : s.padInit.tri = BitVec.allOnes 160 := rfl
@[simp] theorem padInit_s1 : s.padInit.s1 = s.s1 := rfl
@[simp] theorem padInit_s2 : s.padInit.s2 = s.s2 := rfl
@[simp] theorem padInit_s3 : s.padInit.s3 = s.s3 := rfl
@[simp] theorem padInit_latch : s.padInit.latch = s.latch := rfl
@[simp] theorem padInit_data : s.padInit.data = s.data := rfl
@[simp] theorem padInit_rcnt : s.padInit.rcnt = s.rcnt := rfl
@[simp] theorem padInit_ticks : s.padInit.ticks = s.ticks := rfl
@[simp] theorem padInit_err : s.padInit.err = s.err := rfl
@[simp] theorem padInit_errInfo : s.padInit.errInfo = s.errInfo := rfl
@[simp] theorem padInit_start : s.padInit.start = s.start := rfl
@[simp] theorem padInit_stopReq : s.padInit.stopReq = s.stopReq := rfl
@[simp] theorem padInit_tickLimit : s.padInit.tickLimit = s.tickLimit := rfl
@[simp] theorem padInit_verbose : s.padInit.verbose = s.verbose := rfl
@[simp] theorem padInit_vlevelR : s.padInit.vlevelR = s.vlevelR := rfl
@[simp] theorem padInit_vccR : s.padInit.vccR = s.vccR := rfl
@[simp] theorem padInit_gndR : s.padInit.gndR = s.gndR := rfl
@[simp] theorem padInit_supplyEn : s.padInit.supplyEn = false := rfl
@[simp] theorem padInit_events : s.padInit.events = s.events ++ [.init] := rfl
@[simp] theorem padInit_trace : s.padInit.trace = s.trace := rfl
@[simp] theorem padInit_mem : s.padInit.mem = s.mem := rfl
@[simp] theorem padInit_io : s.padInit.io = s.io := rfl
@[simp] theorem padInit_cfg : s.padInit.cfg = s.cfg := rfl
@[simp] theorem padInit_env : s.padInit.env = s.env := rfl
@[simp] theorem padInit_draws : s.padInit.draws = s.draws := rfl
@[simp] theorem padInit_answers : s.padInit.answers = s.answers := rfl
@[simp] theorem padInit_host : s.padInit.host = s.host := rfl
@[simp] theorem padInit_waiting : s.padInit.waiting = s.waiting := rfl
@[simp] theorem padInit_unit : s.padInit.unit = s.unit := rfl

end PadInit

section PadPower
variable (s : State) (l : SupplyLevel) (v g : Mask)

@[simp] theorem padPower_seq : (s.padPower l v g).seq = s.seq := rfl
@[simp] theorem padPower_out : (s.padPower l v g).out = s.out := rfl
@[simp] theorem padPower_tri : (s.padPower l v g).tri = s.tri := rfl
@[simp] theorem padPower_s1 : (s.padPower l v g).s1 = s.s1 := rfl
@[simp] theorem padPower_s2 : (s.padPower l v g).s2 = s.s2 := rfl
@[simp] theorem padPower_s3 : (s.padPower l v g).s3 = s.s3 := rfl
@[simp] theorem padPower_latch : (s.padPower l v g).latch = s.latch := rfl
@[simp] theorem padPower_data : (s.padPower l v g).data = s.data := rfl
@[simp] theorem padPower_rcnt : (s.padPower l v g).rcnt = s.rcnt := rfl
@[simp] theorem padPower_ticks : (s.padPower l v g).ticks = s.ticks := rfl
@[simp] theorem padPower_err : (s.padPower l v g).err = s.err := rfl
@[simp] theorem padPower_errInfo : (s.padPower l v g).errInfo = s.errInfo := rfl
@[simp] theorem padPower_start : (s.padPower l v g).start = s.start := rfl
@[simp] theorem padPower_stopReq : (s.padPower l v g).stopReq = s.stopReq := rfl
@[simp] theorem padPower_tickLimit : (s.padPower l v g).tickLimit = s.tickLimit := rfl
@[simp] theorem padPower_verbose : (s.padPower l v g).verbose = s.verbose := rfl
@[simp] theorem padPower_vlevelR : (s.padPower l v g).vlevelR = l := rfl
@[simp] theorem padPower_vccR : (s.padPower l v g).vccR = v := rfl
@[simp] theorem padPower_gndR : (s.padPower l v g).gndR = g := rfl
@[simp] theorem padPower_supplyEn : (s.padPower l v g).supplyEn = true := rfl
@[simp] theorem padPower_events : (s.padPower l v g).events = s.events ++ [.power l v g] := rfl
@[simp] theorem padPower_trace : (s.padPower l v g).trace = s.trace := rfl
@[simp] theorem padPower_mem : (s.padPower l v g).mem = s.mem := rfl
@[simp] theorem padPower_io : (s.padPower l v g).io = s.io := rfl
@[simp] theorem padPower_cfg : (s.padPower l v g).cfg = s.cfg := rfl
@[simp] theorem padPower_env : (s.padPower l v g).env = s.env := rfl
@[simp] theorem padPower_draws : (s.padPower l v g).draws = s.draws := rfl
@[simp] theorem padPower_answers : (s.padPower l v g).answers = s.answers := rfl
@[simp] theorem padPower_host : (s.padPower l v g).host = s.host := rfl
@[simp] theorem padPower_waiting : (s.padPower l v g).waiting = s.waiting := rfl
@[simp] theorem padPower_unit : (s.padPower l v g).unit = s.unit := rfl

end PadPower

section AfterPads
variable (s : State) (n : Nat)

@[simp] theorem afterPads_seq : (s.afterPads n).seq = s.seq := rfl
@[simp] theorem afterPads_out : (s.afterPads n).out = s.out := rfl
@[simp] theorem afterPads_tri : (s.afterPads n).tri = s.tri := rfl
@[simp] theorem afterPads_s1 : (s.afterPads n).s1 = s.s1 := rfl
@[simp] theorem afterPads_s2 : (s.afterPads n).s2 = s.s2 := rfl
@[simp] theorem afterPads_s3 : (s.afterPads n).s3 = s.s3 := rfl
@[simp] theorem afterPads_latch : (s.afterPads n).latch = s.latch := rfl
@[simp] theorem afterPads_data : (s.afterPads n).data = s.data := rfl
@[simp] theorem afterPads_rcnt : (s.afterPads n).rcnt = s.rcnt := rfl
@[simp] theorem afterPads_ticks : (s.afterPads n).ticks = s.ticks := rfl
@[simp] theorem afterPads_err : (s.afterPads n).err = s.err := rfl
@[simp] theorem afterPads_errInfo : (s.afterPads n).errInfo = s.errInfo := rfl
@[simp] theorem afterPads_start : (s.afterPads n).start = s.start := rfl
@[simp] theorem afterPads_stopReq : (s.afterPads n).stopReq = s.stopReq := rfl
@[simp] theorem afterPads_tickLimit : (s.afterPads n).tickLimit = s.tickLimit := rfl
@[simp] theorem afterPads_verbose : (s.afterPads n).verbose = s.verbose := rfl
@[simp] theorem afterPads_vlevelR : (s.afterPads n).vlevelR = s.vlevelR := rfl
@[simp] theorem afterPads_vccR : (s.afterPads n).vccR = s.vccR := rfl
@[simp] theorem afterPads_gndR : (s.afterPads n).gndR = s.gndR := rfl
@[simp] theorem afterPads_supplyEn : (s.afterPads n).supplyEn = s.supplyEn := rfl
@[simp] theorem afterPads_events : (s.afterPads n).events = s.events := rfl
@[simp] theorem afterPads_trace : (s.afterPads n).trace = s.trace := rfl
@[simp] theorem afterPads_mem : (s.afterPads n).mem = s.mem := rfl
@[simp] theorem afterPads_io : (s.afterPads n).io = s.io := rfl
@[simp] theorem afterPads_cfg : (s.afterPads n).cfg = s.cfg := rfl
@[simp] theorem afterPads_env : (s.afterPads n).env = s.env.drop n := rfl
@[simp] theorem afterPads_draws : (s.afterPads n).draws = s.draws + n := rfl
@[simp] theorem afterPads_answers : (s.afterPads n).answers = s.answers := rfl
@[simp] theorem afterPads_host : (s.afterPads n).host = s.host := rfl
@[simp] theorem afterPads_waiting : (s.afterPads n).waiting = s.waiting := rfl
@[simp] theorem afterPads_unit : (s.afterPads n).unit = s.unit := rfl

end AfterPads

section DroveTo
variable (s : State) (out tri : Mask) (q : Seq)

@[simp] theorem droveTo_seq : (s.droveTo out tri q).seq = q := rfl
@[simp] theorem droveTo_out : (s.droveTo out tri q).out = out := rfl
@[simp] theorem droveTo_tri : (s.droveTo out tri q).tri = tri := rfl
@[simp] theorem droveTo_s1 : (s.droveTo out tri q).s1 = s.s1 := rfl
@[simp] theorem droveTo_s2 : (s.droveTo out tri q).s2 = s.s2 := rfl
@[simp] theorem droveTo_s3 : (s.droveTo out tri q).s3 = s.s3 := rfl
@[simp] theorem droveTo_latch : (s.droveTo out tri q).latch = s.latch := rfl
@[simp] theorem droveTo_data : (s.droveTo out tri q).data = s.data := rfl
@[simp] theorem droveTo_rcnt : (s.droveTo out tri q).rcnt = s.rcnt := rfl
@[simp] theorem droveTo_ticks : (s.droveTo out tri q).ticks = s.ticks := rfl
@[simp] theorem droveTo_err : (s.droveTo out tri q).err = s.err := rfl
@[simp] theorem droveTo_errInfo : (s.droveTo out tri q).errInfo = s.errInfo := rfl
@[simp] theorem droveTo_start : (s.droveTo out tri q).start = s.start := rfl
@[simp] theorem droveTo_stopReq : (s.droveTo out tri q).stopReq = s.stopReq := rfl
@[simp] theorem droveTo_tickLimit : (s.droveTo out tri q).tickLimit = s.tickLimit := rfl
@[simp] theorem droveTo_verbose : (s.droveTo out tri q).verbose = s.verbose := rfl
@[simp] theorem droveTo_vlevelR : (s.droveTo out tri q).vlevelR = s.vlevelR := rfl
@[simp] theorem droveTo_vccR : (s.droveTo out tri q).vccR = s.vccR := rfl
@[simp] theorem droveTo_gndR : (s.droveTo out tri q).gndR = s.gndR := rfl
@[simp] theorem droveTo_supplyEn : (s.droveTo out tri q).supplyEn = s.supplyEn := rfl
@[simp] theorem droveTo_events : (s.droveTo out tri q).events = s.events ++ [.drive out tri] := rfl
@[simp] theorem droveTo_trace : (s.droveTo out tri q).trace = s.trace := rfl
@[simp] theorem droveTo_mem : (s.droveTo out tri q).mem = s.mem := rfl
@[simp] theorem droveTo_io : (s.droveTo out tri q).io = s.io := rfl
@[simp] theorem droveTo_cfg : (s.droveTo out tri q).cfg = s.cfg := rfl
@[simp] theorem droveTo_env : (s.droveTo out tri q).env = s.env.drop 1 := rfl
@[simp] theorem droveTo_draws : (s.droveTo out tri q).draws = s.draws + 1 := rfl
@[simp] theorem droveTo_answers : (s.droveTo out tri q).answers = s.answers := rfl
@[simp] theorem droveTo_host : (s.droveTo out tri q).host = s.host := rfl
@[simp] theorem droveTo_waiting : (s.droveTo out tri q).waiting = s.waiting := rfl
@[simp] theorem droveTo_unit : (s.droveTo out tri q).unit = s.unit := rfl

end DroveTo

section TraceTransfer
variable (s : State)

@[simp] theorem traceTransfer_seq : (traceTransfer s).seq = s.seq := rfl
@[simp] theorem traceTransfer_out : (traceTransfer s).out = s.out := rfl
@[simp] theorem traceTransfer_tri : (traceTransfer s).tri = s.tri := rfl
@[simp] theorem traceTransfer_s1 : (traceTransfer s).s1 = s.s1 := rfl
@[simp] theorem traceTransfer_s2 : (traceTransfer s).s2 = s.s2 := rfl
@[simp] theorem traceTransfer_s3 : (traceTransfer s).s3 = s.s3 := rfl
@[simp] theorem traceTransfer_latch : (traceTransfer s).latch = s.latch := rfl
@[simp] theorem traceTransfer_data : (traceTransfer s).data = s.data := rfl
@[simp] theorem traceTransfer_rcnt : (traceTransfer s).rcnt = s.rcnt := rfl
@[simp] theorem traceTransfer_ticks : (traceTransfer s).ticks = s.ticks := rfl
@[simp] theorem traceTransfer_err : (traceTransfer s).err = s.err := rfl
@[simp] theorem traceTransfer_errInfo : (traceTransfer s).errInfo = s.errInfo := rfl
@[simp] theorem traceTransfer_start : (traceTransfer s).start = s.start := rfl
@[simp] theorem traceTransfer_stopReq : (traceTransfer s).stopReq = s.stopReq := rfl
@[simp] theorem traceTransfer_tickLimit : (traceTransfer s).tickLimit = s.tickLimit := rfl
@[simp] theorem traceTransfer_verbose : (traceTransfer s).verbose = s.verbose := rfl
@[simp] theorem traceTransfer_vlevelR : (traceTransfer s).vlevelR = s.vlevelR := rfl
@[simp] theorem traceTransfer_vccR : (traceTransfer s).vccR = s.vccR := rfl
@[simp] theorem traceTransfer_gndR : (traceTransfer s).gndR = s.gndR := rfl
@[simp] theorem traceTransfer_supplyEn : (traceTransfer s).supplyEn = s.supplyEn := rfl
@[simp] theorem traceTransfer_events : (traceTransfer s).events = s.events := rfl
@[simp] theorem traceTransfer_trace : (traceTransfer s).trace = s.traced (.transfer s.ticks s.latch s.data) := rfl
@[simp] theorem traceTransfer_mem : (traceTransfer s).mem = s.mem := rfl
@[simp] theorem traceTransfer_io : (traceTransfer s).io = s.io := rfl
@[simp] theorem traceTransfer_cfg : (traceTransfer s).cfg = s.cfg := rfl
@[simp] theorem traceTransfer_env : (traceTransfer s).env = s.env := rfl
@[simp] theorem traceTransfer_draws : (traceTransfer s).draws = s.draws := rfl
@[simp] theorem traceTransfer_answers : (traceTransfer s).answers = s.answers := rfl
@[simp] theorem traceTransfer_host : (traceTransfer s).host = s.host := rfl
@[simp] theorem traceTransfer_waiting : (traceTransfer s).waiting = s.waiting := rfl
@[simp] theorem traceTransfer_unit : (traceTransfer s).unit = s.unit := rfl

end TraceTransfer

section HaltStop
variable (s : State)

@[simp] theorem haltStop_seq : (haltStop s).seq = .sStopped := rfl
@[simp] theorem haltStop_out : (haltStop s).out = s.out := rfl
@[simp] theorem haltStop_tri : (haltStop s).tri = s.tri := rfl
@[simp] theorem haltStop_s1 : (haltStop s).s1 = s.s1 := rfl
@[simp] theorem haltStop_s2 : (haltStop s).s2 = s.s2 := rfl
@[simp] theorem haltStop_s3 : (haltStop s).s3 = s.s3 := rfl
@[simp] theorem haltStop_latch : (haltStop s).latch = s.latch := rfl
@[simp] theorem haltStop_data : (haltStop s).data = s.data := rfl
@[simp] theorem haltStop_rcnt : (haltStop s).rcnt = s.rcnt := rfl
@[simp] theorem haltStop_ticks : (haltStop s).ticks = s.ticks := rfl
@[simp] theorem haltStop_err : (haltStop s).err = s.err := rfl
@[simp] theorem haltStop_errInfo : (haltStop s).errInfo = s.errInfo := rfl
@[simp] theorem haltStop_start : (haltStop s).start = s.start := rfl
@[simp] theorem haltStop_stopReq : (haltStop s).stopReq = s.stopReq := rfl
@[simp] theorem haltStop_tickLimit : (haltStop s).tickLimit = s.tickLimit := rfl
@[simp] theorem haltStop_verbose : (haltStop s).verbose = s.verbose := rfl
@[simp] theorem haltStop_vlevelR : (haltStop s).vlevelR = s.vlevelR := rfl
@[simp] theorem haltStop_vccR : (haltStop s).vccR = s.vccR := rfl
@[simp] theorem haltStop_gndR : (haltStop s).gndR = s.gndR := rfl
@[simp] theorem haltStop_supplyEn : (haltStop s).supplyEn = s.supplyEn := rfl
@[simp] theorem haltStop_events : (haltStop s).events = s.events ++ [.halt .stop] := rfl
@[simp] theorem haltStop_trace : (haltStop s).trace = s.trace := rfl
@[simp] theorem haltStop_mem : (haltStop s).mem = s.mem := rfl
@[simp] theorem haltStop_io : (haltStop s).io = s.io := rfl
@[simp] theorem haltStop_cfg : (haltStop s).cfg = s.cfg := rfl
@[simp] theorem haltStop_env : (haltStop s).env = s.env := rfl
@[simp] theorem haltStop_draws : (haltStop s).draws = s.draws := rfl
@[simp] theorem haltStop_answers : (haltStop s).answers = s.answers := rfl
@[simp] theorem haltStop_host : (haltStop s).host = s.host := rfl
@[simp] theorem haltStop_waiting : (haltStop s).waiting = s.waiting := rfl
@[simp] theorem haltStop_unit : (haltStop s).unit = s.unit := rfl

end HaltStop

section Hung
variable (s : State)

@[simp] theorem hung_seq : s.hung.seq = s.seq := rfl
@[simp] theorem hung_out : s.hung.out = s.out := rfl
@[simp] theorem hung_tri : s.hung.tri = s.tri := rfl
@[simp] theorem hung_s1 : s.hung.s1 = s.s1 := rfl
@[simp] theorem hung_s2 : s.hung.s2 = s.s2 := rfl
@[simp] theorem hung_s3 : s.hung.s3 = s.s3 := rfl
@[simp] theorem hung_latch : s.hung.latch = s.latch := rfl
@[simp] theorem hung_data : s.hung.data = s.data := rfl
@[simp] theorem hung_rcnt : s.hung.rcnt = s.rcnt := rfl
@[simp] theorem hung_ticks : s.hung.ticks = s.ticks := rfl
@[simp] theorem hung_err : s.hung.err = s.err := rfl
@[simp] theorem hung_errInfo : s.hung.errInfo = s.errInfo := rfl
@[simp] theorem hung_start : s.hung.start = s.start := rfl
@[simp] theorem hung_stopReq : s.hung.stopReq = s.stopReq := rfl
@[simp] theorem hung_tickLimit : s.hung.tickLimit = s.tickLimit := rfl
@[simp] theorem hung_verbose : s.hung.verbose = s.verbose := rfl
@[simp] theorem hung_vlevelR : s.hung.vlevelR = s.vlevelR := rfl
@[simp] theorem hung_vccR : s.hung.vccR = s.vccR := rfl
@[simp] theorem hung_gndR : s.hung.gndR = s.gndR := rfl
@[simp] theorem hung_supplyEn : s.hung.supplyEn = s.supplyEn := rfl
@[simp] theorem hung_events : s.hung.events = s.events := rfl
@[simp] theorem hung_trace : s.hung.trace = s.trace := rfl
@[simp] theorem hung_mem : s.hung.mem = s.mem := rfl
@[simp] theorem hung_io : s.hung.io = s.io := rfl
@[simp] theorem hung_cfg : s.hung.cfg = s.cfg := rfl
@[simp] theorem hung_env : s.hung.env = s.env := rfl
@[simp] theorem hung_draws : s.hung.draws = s.draws := rfl
@[simp] theorem hung_answers : s.hung.answers = s.answers.tail := rfl
@[simp] theorem hung_host : s.hung.host = s.host := rfl
@[simp] theorem hung_waiting : s.hung.waiting = true := rfl
@[simp] theorem hung_unit : s.hung.unit = s.unit := rfl

end Hung

section Store
variable (s : State) (m : Memory)

@[simp] theorem withStore_memory : s.withStore .memory m = { s with mem := m } := rfl
@[simp] theorem withStore_io : s.withStore .io m = { s with io := m } := rfl
@[simp] theorem store_memory : s.store .memory = s.mem := rfl
@[simp] theorem store_io : s.store .io = s.io := rfl

end Store

end Sys2Proof.Machine
end

