-- ==== Sys2Proof/Laws/Ops.lean ====
section
/-! SUPPORT. One specification lemma per shared operation: what it does when its environment premise
holds, and everything it can do. Later proofs cite these and unfold no primitive. -/

namespace Sys2Proof.Machine

@[simp] theorem andThen_goes {α β : Type} (a : α) (s : State) (g : α → State → Res β) :
    (Res.goes a s).andThen g = g a s := rfl
@[simp] theorem andThen_ends {α β : Type} (s : State) (g : α → State → Res β) :
    (Res.ends s : Res α).andThen g = .ends s := rfl
@[simp] theorem andThen_stops {α β : Type} (f : Fault) (g : α → State → Res β) :
    (Res.stops f : Res α).andThen g = .stops f := rfl

/-- Two continuations in a row are one. -/
theorem andThen_assoc {α β γ : Type} (r : Res α) (g : α → State → Res β) (h : β → State → Res γ) :
    (r.andThen g).andThen h = r.andThen fun a s => (g a s).andThen h := by
  cases r <;> rfl

@[simp] theorem outcome_goes (s : State) : (Res.goes () s).outcome = .next s := rfl
@[simp] theorem outcome_ends (s : State) : (Res.ends s).outcome = .next s := rfl
@[simp] theorem outcome_stops (f : Fault) : (Res.stops f).outcome = .fault f := rfl

@[simp] theorem goto_eq (q : Seq) (s : State) : goto q s = .goes () { s with seq := q } := rfl

/-- What an action may answer: `P` of a state it goes on with, `Q` of a state it ends in. -/
def Res.Sat {α : Type} (r : Res α) (P : α → State → Prop) (Q : State → Prop) : Prop :=
  match r with
  | .goes a s => P a s
  | .ends s => Q s
  | .stops _ => True

theorem Res.Sat.andThen {α β : Type} {r : Res α} {g : α → State → Res β} {P : α → State → Prop}
    {P' : β → State → Prop} {Q : State → Prop} (h : r.Sat P Q)
    (hg : ∀ a s, P a s → (g a s).Sat P' Q) : (r.andThen g).Sat P' Q := by
  cases r with
  | goes a s => exact hg a s h
  | ends s => exact h
  | stops f => trivial

/-- What a step may answer, read off its action. -/
theorem Res.Sat.outcome {r : Res Unit} {Q : State → Prop} (h : r.Sat (fun _ => Q) Q) {t : State}
    (ht : r.outcome = .next t) : Q t := by
  cases r with
  | goes a s => cases ht; exact h
  | ends s => cases ht; exact h
  | stops f => cases ht

/-- A pad event whose premise holds has its effect (41 R93). -/
theorem padEvent_goes {eff : State → State} {s : State}
    (h : s.padOk 0 (eff s.tookEnv).out (eff s.tookEnv).tri) :
    padEvent eff s = .goes () (eff s.tookEnv) := by
  simp [padEvent, h.1, h.2]

/-- Everything a pad event can do (41 R96, R97). -/
theorem padEvent_cases (eff : State → State) (s : State) :
    padEvent eff s = .ends (raise .adapterIo .none s.tookEnv) ∧ (s.envAt 0).fails = true ∨
    padEvent eff s = .stops .contention ∨
    padEvent eff s = .goes () (eff s.tookEnv) ∧
      s.padOk 0 (eff s.tookEnv).out (eff s.tookEnv).tri := by
  unfold padEvent
  cases hf : (s.envAt 0).fails
  · cases hc : (s.envAt 0).contends (eff s.tookEnv).out (eff s.tookEnv).tri
    · exact .inr (.inr ⟨rfl, hf, hc⟩)
    · exact .inr (.inl rfl)
  · exact .inl ⟨rfl, rfl⟩

theorem padEvent_fails {eff : State → State} {s : State} (h : (s.envAt 0).fails = true) :
    padEvent eff s = .ends (raise .adapterIo .none s.tookEnv) := by
  simp [padEvent, h]

/-- The rule for a pad event in a `Sat` proof. -/
theorem padEvent_sat {eff : State → State} {s : State} {P : Unit → State → Prop} {Q : State → Prop}
    (hP : P () (eff s.tookEnv)) (hQ : Q (raise .adapterIo .none s.tookEnv)) :
    (padEvent eff s).Sat P Q := by
  rcases padEvent_cases eff s with ⟨h, -⟩ | h | ⟨h, -⟩ <;> rw [h]
  · exact hQ
  · trivial
  · exact hP

theorem drive_goes {out tri : Mask} {s : State} (h : s.padOk 0 out tri) :
    drive out tri s = .goes () (s.tookEnv.padDrive out tri) := padEvent_goes h

theorem drive_sat {out tri : Mask} {s : State} {P : Unit → State → Prop} {Q : State → Prop}
    (hP : P () (s.tookEnv.padDrive out tri)) (hQ : Q (raise .adapterIo .none s.tookEnv)) :
    (drive out tri s).Sat P Q := padEvent_sat hP hQ

theorem sample_goes {s : State} (h : s.padOk 0 s.out s.tri) :
    sample s = .goes s.sampleNow (s.tookEnv.padSample s.sampleNow) := by
  simp [sample, padEvent_goes (eff := State.padSample s.sampleNow) h]

theorem sample_sat {s : State} {P : Mask → State → Prop} {Q : State → Prop}
    (hP : P s.sampleNow (s.tookEnv.padSample s.sampleNow))
    (hQ : Q (raise .adapterIo .none s.tookEnv)) : (sample s).Sat P Q :=
  Res.Sat.andThen (P := fun _ t => P s.sampleNow t) (padEvent_sat hP hQ) fun _ _ h => h

/-- While the data pins are released a Sample writes no over-drive warning (44 R153). -/
theorem sampleTrace_released {s : State} (hw : s.cfg.wf = true) (h : s.tri = s.cfg.triDefault) :
    s.sampleTrace = s.trace := by
  simp [State.sampleTrace, overDrives, h, triDefault_data16 hw]

/-- Everything a read request can do (20 R44, R46, 70 R189). -/
theorem memRead_cases (sp : Space) (a : Addr) (w : Width) (s : State) :
    (∃ v, memRead sp a w s =
      .goes v { s with answers := s.answers.tail, events := s.events ++ [.read sp a w v] }) ∨
    memRead sp a w s = .stops .addressOutside ∨
    memRead sp a w s = .ends s.hung := by
  unfold memRead
  cases s.answerNow with
  | reference =>
    cases h : (s.store sp).read a w with
    | some v => exact .inl ⟨v.toNat, rfl⟩
    | none => exact .inr (.inl rfl)
  | other v => exact .inl ⟨v, rfl⟩
  | silent => exact .inr (.inr rfl)

/-- Everything a write request can do (20 R45, R47, 70 R189). -/
theorem memWrite_cases (sp : Space) (a : Addr) (v : Data) (w : Width) (s : State) :
    (∃ m, (s.store sp).write a v w = some m ∧ memWrite sp a v w s = .goes () (State.withStore
      { s with answers := s.answers.tail, events := s.events ++ [.write sp a v w] } sp m)) ∨
    memWrite sp a v w s =
      .goes () { s with answers := s.answers.tail, events := s.events ++ [.write sp a v w] } ∨
    memWrite sp a v w s = .stops .addressOutside ∨
    memWrite sp a v w s = .ends s.hung := by
  unfold memWrite
  cases s.answerNow with
  | reference =>
    cases h : (s.store sp).write a v w with
    | some m => exact .inl ⟨m, rfl, rfl⟩
    | none => exact .inr (.inr (.inl rfl))
  | other v => exact .inr (.inl rfl)
  | silent => exact .inr (.inr (.inr rfl))

/-- A step without a pending host act runs the fetched operation. -/
theorem step_of_no_host {s : State} (h : s.host = []) : step s = runFetched s := by
  simp [step, hostTurn, h]

/-- A fetched SQ word runs the action of SEQ (10_state.md R13). -/
theorem runFetched_micro {s : State} (h : s.unit = .micro) : runFetched s = exec s.seq.instr s := by
  simp [runFetched, fetch, h, decode_sqWord]

end Sys2Proof.Machine
end

