-- ==== Sys2Proof/Laws/Meanings.lean ====
section
/-! SUPPORT. One specification lemma per action of the engine and the executor: what it answers when the
environment premise of its pad events holds (spec/43_bus_cycle_engine.md, spec/44_transfer_executor.md). -/

namespace Sys2Proof.Machine

/-- Two lots of pad events are one. -/
@[simp] theorem afterPads_envAt (s : State) (n k : Nat) :
    (s.afterPads n).envAt k = s.envAt (n + k) := by
  simp [State.envAt, State.afterPads, Nat.add_assoc]

/-- The premise of later pad events, seen from the state after the first. -/
theorem padOk_tookEnv {s : State} {k : Nat} {out tri : Mask} :
    s.tookEnv.padOk k out tri ↔ s.padOk (k + 1) out tri := by
  simp [State.padOk]

/-- A Drive whose premise holds, in full. -/
theorem drive_full {out tri : Mask} {s : State} (h : s.padOk 0 out tri) :
    drive out tri s = .goes ()
      { s.afterPads 1 with out := out, tri := tri, events := s.events ++ [.drive out tri] } :=
  drive_goes h

/-- A Sample whose premise holds, in full. -/
theorem sample_full {s : State} (h : s.padOk 0 s.out s.tri) :
    sample s = .goes (sampled s.out s.tri (s.envAt 0).levels)
      { s.afterPads 1 with
        events := s.events ++ [.sample (sampled s.out s.tri (s.envAt 0).levels)]
        trace := s.sampleTrace } :=
  sample_goes h

/-- A tick opens with one Drive and one Sample (43 R113 b, c). -/
theorem tickOpen_full {s : State} (h0 : s.padOk 0 s.cfg.clkHigh s.tri)
    (h1 : s.padOk 1 s.cfg.clkHigh s.tri) :
    tickOpen s = .goes ()
      { s.afterPads 2 with
        out := s.cfg.clkHigh
        s1 := sampled s.cfg.clkHigh s.tri (s.envAt 1).levels
        ticks := s.ticks + 1
        events := s.events ++ [.drive s.cfg.clkHigh s.tri] ++
          [.sample (sampled s.cfg.clkHigh s.tri (s.envAt 1).levels)]
        trace := s.sampleTrace } := by
  unfold tickOpen
  rw [drive_full h0, andThen_goes, sample_full]
  · simp [State.afterPads, State.envAt, State.sampleTrace, State.traced, Nat.add_assoc]
  · simpa [State.padOk, State.envAt, State.afterPads] using h1

/-- The falling edge and the second Sample of an active tick (43 R117 a, b). -/
theorem resample_full {s : State} (h0 : s.padOk 0 s.cfg.clkLow s.tri)
    (h1 : s.padOk 1 s.cfg.clkLow s.tri) :
    resample s = .goes ()
      { s.afterPads 2 with
        out := s.cfg.clkLow
        s2 := sampled s.cfg.clkLow s.tri (s.envAt 1).levels
        events := s.events ++ [.drive s.cfg.clkLow s.tri] ++
          [.sample (sampled s.cfg.clkLow s.tri (s.envAt 1).levels)]
        trace := s.sampleTrace } := by
  unfold resample
  rw [drive_full h0, andThen_goes, sample_full]
  · simp [State.afterPads, State.envAt, State.sampleTrace, State.traced, Nat.add_assoc]
  · simpa [State.padOk, State.envAt, State.afterPads] using h1

/-- The low half-cycle of an idle tick (43 R115). -/
theorem iLow_full {s : State} (h : s.padOk 0 s.cfg.clkLow s.tri) :
    iLow s = .goes () (s.droveTo s.cfg.clkLow s.tri .sIHigh) := by
  unfold iLow; rw [drive_full h]; rfl

/-- The high half-cycle of an idle tick (43 R116). -/
theorem iHigh_full {s : State} (h : s.padOk 0 s.cfg.clkHigh s.tri) :
    iHigh s = .goes () (s.droveTo s.cfg.clkHigh s.tri .sIdle) := by
  unfold iHigh; rw [drive_full h]; rfl

/-- The rising edge before a transfer (43 R121). -/
theorem aHigh_full {s : State} (h : s.padOk 0 s.cfg.clkHigh s.tri) :
    aHigh s = .goes () (s.droveTo s.cfg.clkHigh s.tri (transferEntry s.latch.dir)) := by
  unfold aHigh; rw [drive_full h]; rfl

/-- A read request that is answered (20 R44, R46). -/
theorem memRead_answered {s : State} {sp : Space} {a : Addr} {w : Width} {r : Nat}
    (h : s.answersRead sp a w r) :
    memRead sp a w s =
      .goes r { s with answers := s.answers.tail, events := s.events ++ [.read sp a w r] } := by
  rcases h with ⟨ha, hr⟩ | ha
  · cases hm : (s.store sp).read a w with
    | none => simp [hm] at hr
    | some v =>
      simp only [hm, Option.map_some, Option.some.injEq] at hr
      simp [memRead, ha, hm, hr]
  · simp [memRead, ha]

/-- A write request that is accepted (20 R45, R47). -/
theorem memWrite_accepted {s : State} {sp : Space} {a : Addr} {v : Data} {w : Width} {m : Memory}
    (h : s.acceptsWrite sp a v w m) :
    memWrite sp a v w s = .goes () (State.withStore
      { s with answers := s.answers.tail, events := s.events ++ [.write sp a v w] } sp m) := by
  rcases h with ⟨ha, hm⟩ | ⟨⟨n, ha⟩, rfl⟩
  · simp [memWrite, ha, hm]
  · cases sp <;> simp [memWrite, ha]

/-- The request of a read, answered (44 R131). -/
theorem rdReq_answered {s : State} {r : Nat} (hw : s.waiting = false)
    (h : s.padOk 0 s.out s.cfg.triDefault)
    (ha : s.answersRead s.latch.space s.latch.addr s.latch.width r) :
    rdReq s = acceptRead r
      { s.afterPads 1 with
        tri := s.cfg.triDefault
        answers := s.answers.tail
        events := s.events ++ [.drive s.out s.cfg.triDefault] ++
          [.read s.latch.space s.latch.addr s.latch.width r] } := by
  unfold rdReq
  rw [hw, drive_full h]
  simp only [Bool.false_eq_true, if_false, andThen_goes]
  rw [memRead_answered (r := r)]
  · rfl
  · exact ha

/-- A value of at most 65535 becomes DATA (44 R131 e). -/
theorem acceptRead_fits {s : State} {r : Nat} (h : readValue s.cfg s.latch.width r ≤ 65535) :
    acceptRead r s = .goes ()
      { s with data := BitVec.ofNat 16 (readValue s.cfg s.latch.width r), seq := .sRdLow } := by
  simp [acceptRead, h]

/-- A larger value is a ContractViolation before any pad is written (44 R131 d, 60 R162). -/
theorem acceptRead_violates {s : State} {r : Nat} (h : 65535 < readValue s.cfg s.latch.width r) :
    acceptRead r s =
      .ends (raise .contractViolation (.value (readValue s.cfg s.latch.width r)) s) := by
  simp [acceptRead, Nat.not_le.mpr h]

/-- The three Drives of a read (44 R132 to R134). -/
theorem rdLow_full {s : State} (h : s.padOk 0 (s.cfg.clkLow ||| s.cfg.dataMask s.data) s.cfg.triRead) :
    rdLow s = .goes ()
      (s.droveTo (s.cfg.clkLow ||| s.cfg.dataMask s.data) s.cfg.triRead .sRdHigh) := by
  unfold rdLow; rw [drive_full h]; rfl

theorem rdHigh_full {s : State} (h : s.padOk 0 (s.cfg.clkHigh ||| s.cfg.dataMask s.data) s.tri) :
    rdHigh s = .goes ()
      (s.droveTo (s.cfg.clkHigh ||| s.cfg.dataMask s.data) s.tri .sRdRel) := by
  unfold rdHigh; rw [drive_full h]; rfl

theorem rdRel_full {s : State} (h : s.padOk 0 s.cfg.clkHigh s.cfg.triDefault) :
    rdRel s = .goes ()
      { s.droveTo s.cfg.clkHigh s.cfg.triDefault .sIdle with
        trace := s.traced (.transfer s.ticks s.latch s.data) } := by
  unfold rdRel; rw [drive_full h]; rfl

/-- Replacing a store and moving SEQ do not interfere. -/
theorem goto_withStore (q : Seq) (s : State) (sp : Space) (m : Memory) :
    goto q (s.withStore sp m) = .goes () (State.withStore { s with seq := q } sp m) := by
  cases sp <;> rfl

/-- Capture and forward, accepted (44 R136). -/
theorem wrCap_accepted {s : State} {m : Memory} (hw : s.waiting = false) (h : s.padOk 0 s.out s.tri)
    (ha : s.acceptsWrite s.latch.space s.latch.addr
      (s.cfg.decodeData (sampled s.out s.tri (s.envAt 0).levels)) s.latch.width m) :
    wrCap s = .goes () (State.withStore
      { s.afterPads 1 with
        s3 := sampled s.out s.tri (s.envAt 0).levels
        data := s.cfg.decodeData (sampled s.out s.tri (s.envAt 0).levels)
        answers := s.answers.tail
        trace := s.sampleTrace
        events := s.events ++ [.sample (sampled s.out s.tri (s.envAt 0).levels)] ++
          [.write s.latch.space s.latch.addr
            (s.cfg.decodeData (sampled s.out s.tri (s.envAt 0).levels)) s.latch.width]
        seq := .sWrLow } s.latch.space m) := by
  unfold wrCap
  rw [hw, sample_full h]
  simp only [Bool.false_eq_true, if_false, andThen_goes]
  rw [memWrite_accepted (m := m)]
  · rw [andThen_goes, goto_withStore]
    rfl
  · exact ha

/-- The two half-cycles that complete a write (44 R137, R138). -/
theorem wrLow_full {s : State} (h : s.padOk 0 s.cfg.clkLow s.tri) :
    wrLow s = .goes () (s.droveTo s.cfg.clkLow s.tri .sWrHigh) := by
  unfold wrLow; rw [drive_full h]; rfl

theorem wrHigh_full {s : State} (h : s.padOk 0 s.cfg.clkHigh s.tri) :
    wrHigh s = .goes ()
      { s.droveTo s.cfg.clkHigh s.tri .sIdle with
        trace := s.traced (.transfer s.ticks s.latch s.data) } := by
  unfold wrHigh; rw [drive_full h]; rfl

end Sys2Proof.Machine
end

