-- ==== Sys2Proof/Laws/Memory.lean ====
section
/-! SUPPORT. The stores: a byte read after a store (spec/20_memory.md R47, R56), the canonical form kept
by every operation, and equal contents are equal lists. -/

namespace Sys2Proof.Machine

theorem byte_cons (a : Nat) (v : Byte) (m : Memory) (b : Nat)
    (h : m.byte a = Memory.unlisted) :
    (Memory.cons a v m).byte b = if b = a then v else m.byte b := by
  unfold Memory.cons
  by_cases hv : v = Memory.unlisted
  · by_cases hb : b = a
    · subst hb; simp [hv, h]
    · simp [hv, hb]
  · by_cases hb : b = a
    · simp [hv, Memory.byte, hb]
    · simp [hv, Memory.byte, hb, Ne.symm hb]

theorem byte_of_wfFrom {lo : Nat} {m : Memory} (h : m.wfFrom lo = true) {a : Nat} (ha : a < lo) :
    m.byte a = Memory.unlisted := by
  induction m generalizing lo with
  | nil => rfl
  | cons kv m ih =>
    obtain ⟨k, v⟩ := kv
    simp only [Memory.wfFrom, Bool.and_eq_true, decide_eq_true_eq] at h
    have hk : k ≠ a := by omega
    simp only [Memory.byte, hk, if_false]
    exact ih h.2 (by omega)

theorem wfFrom_mono {lo lo' : Nat} {m : Memory} (h : m.wfFrom lo = true) (hl : lo' ≤ lo) :
    m.wfFrom lo' = true := by
  cases m with
  | nil => rfl
  | cons kv m =>
    obtain ⟨k, v⟩ := kv
    simp only [Memory.wfFrom, Bool.and_eq_true, decide_eq_true_eq] at h ⊢
    exact ⟨⟨⟨by omega, h.1.1.2⟩, h.1.2⟩, h.2⟩

/-- A byte read after a store: the stored byte at its address, the old byte everywhere else. -/
theorem byte_set {lo : Nat} {m : Memory} (h : m.wfFrom lo = true) (a : Nat) (v : Byte) (b : Nat) :
    (m.set a v).byte b = if b = a then v else m.byte b := by
  induction m generalizing lo with
  | nil => exact byte_cons a v [] b rfl
  | cons kv m ih =>
    obtain ⟨k, w⟩ := kv
    have h' := h
    simp only [Memory.wfFrom, Bool.and_eq_true, decide_eq_true_eq] at h'
    unfold Memory.set
    by_cases h1 : a < k
    · simp only [h1, if_true]
      refine byte_cons a v _ b ?_
      have hk : k ≠ a := by omega
      simp only [Memory.byte, hk, if_false]
      exact byte_of_wfFrom h'.2 (by omega)
    · simp only [h1, if_false]
      by_cases h2 : a = k
      · simp only [h2, if_true]
        rw [byte_cons k v m b (byte_of_wfFrom h'.2 (by omega))]
        by_cases hb : b = k
        · simp [hb]
        · simp [hb, Memory.byte, Ne.symm hb]
      · simp only [h2, if_false, Memory.byte]
        by_cases hb : k = b
        · have : b ≠ a := by omega
          simp [hb, this]
        · simp [hb, ih h'.2]

theorem wfFrom_cons {lo a : Nat} {v : Byte} {m : Memory} (h : m.wfFrom (a + 1) = true)
    (hl : lo ≤ a) (ha : a < Memory.size) : (Memory.cons a v m).wfFrom lo = true := by
  unfold Memory.cons
  by_cases hv : v = Memory.unlisted
  · simp only [hv, if_true]
    exact wfFrom_mono h (by omega)
  · simp [hv, Memory.wfFrom, hl, ha, h]

/-- A store inside the space keeps the canonical form. -/
theorem wfFrom_set {lo : Nat} {m : Memory} (h : m.wfFrom lo = true) {a : Nat} (hl : lo ≤ a)
    (ha : a < Memory.size) (v : Byte) : (m.set a v).wfFrom lo = true := by
  induction m generalizing lo with
  | nil => exact wfFrom_cons rfl hl ha
  | cons kv m ih =>
    obtain ⟨k, w⟩ := kv
    have h' := h
    simp only [Memory.wfFrom, Bool.and_eq_true, decide_eq_true_eq] at h'
    unfold Memory.set
    by_cases h1 : a < k
    · simp only [h1, if_true]
      refine wfFrom_cons ?_ hl ha
      simp only [Memory.wfFrom, Bool.and_eq_true, decide_eq_true_eq]
      exact ⟨⟨⟨by omega, h'.1.1.2⟩, h'.1.2⟩, h'.2⟩
    · simp only [h1, if_false]
      by_cases h2 : a = k
      · subst h2
        simp only [if_true]
        exact wfFrom_cons h'.2 hl ha
      · simp only [h2, if_false, Memory.wfFrom, Bool.and_eq_true, decide_eq_true_eq]
        exact ⟨⟨⟨h'.1.1.1, h'.1.1.2⟩, h'.1.2⟩, ih h'.2 (by omega)⟩

theorem addr_lt (a : Addr) : a.toNat < Memory.size := a.isLt

/-- A write keeps the canonical form (R47). -/
theorem wf_write {m m' : Memory} (h : m.wf = true) {a : Addr} {v : Data} {w : Width}
    (hw : m.write a v w = some m') : m'.wf = true := by
  cases w with
  | word =>
    simp only [Memory.write] at hw
    split at hw
    · cases hw
      exact wfFrom_set (wfFrom_set h (Nat.zero_le _) (addr_lt a) _) (Nat.zero_le _) ‹_› _
    · cases hw
  | upperByte => cases hw; exact wfFrom_set h (Nat.zero_le _) (addr_lt a) _
  | lowerByte => cases hw; exact wfFrom_set h (Nat.zero_le _) (addr_lt a) _

/-- Canonical stores with equal contents are equal. -/
theorem wfFrom_ext {lo : Nat} {m n : Memory} (hm : m.wfFrom lo = true) (hn : n.wfFrom lo = true)
    (h : ∀ a, m.byte a = n.byte a) : m = n := by
  induction m generalizing lo n with
  | nil =>
    cases n with
    | nil => rfl
    | cons kv n =>
      obtain ⟨k, v⟩ := kv
      simp only [Memory.wfFrom, Bool.and_eq_true, bne_iff_ne] at hn
      have := h k
      simp only [Memory.byte, if_true] at this
      exact absurd this.symm hn.1.2
  | cons kv m ih =>
    obtain ⟨k, v⟩ := kv
    have hm' := hm
    simp only [Memory.wfFrom, Bool.and_eq_true, decide_eq_true_eq, bne_iff_ne] at hm'
    cases n with
    | nil =>
      have := h k
      simp only [Memory.byte, if_true] at this
      exact absurd this hm'.1.2
    | cons kv' n =>
      obtain ⟨k', v'⟩ := kv'
      have hn' := hn
      simp only [Memory.wfFrom, Bool.and_eq_true, decide_eq_true_eq, bne_iff_ne] at hn'
      have hkk : k = k' := by
        rcases Nat.lt_trichotomy k k' with hlt | heq | hgt
        · have hb := h k
          have hne : k' ≠ k := by omega
          simp only [Memory.byte, if_true, hne, if_false] at hb
          rw [byte_of_wfFrom hn'.2 (by omega)] at hb
          exact absurd hb hm'.1.2
        · exact heq
        · have hb := h k'
          have hne : k ≠ k' := by omega
          simp only [Memory.byte, if_true, hne, if_false] at hb
          rw [byte_of_wfFrom hm'.2 (by omega)] at hb
          exact absurd hb.symm hn'.1.2
      subst hkk
      have hv : v = v' := by have := h k; simpa [Memory.byte] using this
      subst hv
      have : m = n := ih hm'.2 hn'.2 fun a => by
        by_cases ha : k = a
        · subst ha
          rw [byte_of_wfFrom hm'.2 (by omega), byte_of_wfFrom hn'.2 (by omega)]
        · have := h a; simpa [Memory.byte, ha] using this
      rw [this]

end Sys2Proof.Machine
end

