-- ==== Sys2Proof/Laws/PerInstr.lean ====
section
/-! SUPPORT. The family `Row`, one lemma per constructor: the word of every operation fits its format
(spec/30_encoding.md R60, R66; spec/10_state.md R11: codes 24 to 31 name nothing). -/

namespace Sys2Proof.Laws.Row

/-- The word of `i` uses no bit beyond DW's six, or is one of the 24 SEQ codes. -/
def Statement (i : Instr) : Prop :=
  ((encode i).1 = .dw → (encode i).2.toNat < 64) ∧ ((encode i).1 = .sq → (encode i).2.toNat < 24)

theorem dw_fits {i : Instr} {d : DecodeWord} (h : encode i = (.dw, dwWord d)) : Statement i := by
  have := d.isLt
  constructor
  · intro _
    simp only [h, dwWord, BitVec.toNat_setWidth]
    omega
  · simp [h]

theorem const_fits {i : Instr}
    (h : (match encode i with
      | (.dw, w) => decide (w.toNat < 64)
      | (.sq, w) => decide (w.toNat < 24)) = true) : Statement i := by
  unfold Statement
  rcases he : encode i with ⟨f, w⟩
  rw [he] at h
  cases f <;> simp_all

theorem idle (low : BitVec 5) : Statement (.idle low) := dw_fits rfl
theorem rdMW : Statement .rdMW := const_fits rfl
theorem rdMUB : Statement .rdMUB := const_fits rfl
theorem rdMLB : Statement .rdMLB := const_fits rfl
theorem rdIoW : Statement .rdIoW := const_fits rfl
theorem rdIoUB : Statement .rdIoUB := const_fits rfl
theorem rdIoLB : Statement .rdIoLB := const_fits rfl
theorem wrMW : Statement .wrMW := const_fits rfl
theorem wrMUB : Statement .wrMUB := const_fits rfl
theorem wrMLB : Statement .wrMLB := const_fits rfl
theorem wrIoW : Statement .wrIoW := const_fits rfl
theorem wrIoUB : Statement .wrIoUB := const_fits rfl
theorem wrIoLB : Statement .wrIoLB := const_fits rfl
theorem errDirNone (rest : BitVec 3) : Statement (.errDirNone rest) := dw_fits rfl
theorem errDirBoth (rest : BitVec 3) : Statement (.errDirBoth rest) := dw_fits rfl
theorem errWidthRd (mio : BitVec 1) : Statement (.errWidthRd mio) := dw_fits rfl
theorem errWidthWr (mio : BitVec 1) : Statement (.errWidthWr mio) := dw_fits rfl
theorem sOff : Statement .sOff := const_fits rfl
theorem sRs1 : Statement .sRs1 := const_fits rfl
theorem sRs2 : Statement .sRs2 := const_fits rfl
theorem sRs3 : Statement .sRs3 := const_fits rfl
theorem sRs4A : Statement .sRs4A := const_fits rfl
theorem sRs4L : Statement .sRs4L := const_fits rfl
theorem sRs4H : Statement .sRs4H := const_fits rfl
theorem sRs5A : Statement .sRs5A := const_fits rfl
theorem sRs5L : Statement .sRs5L := const_fits rfl
theorem sRs5H : Statement .sRs5H := const_fits rfl
theorem sIdle : Statement .sIdle := const_fits rfl
theorem sILow : Statement .sILow := const_fits rfl
theorem sIHigh : Statement .sIHigh := const_fits rfl
theorem sALow : Statement .sALow := const_fits rfl
theorem sAHigh : Statement .sAHigh := const_fits rfl
theorem sRdReq : Statement .sRdReq := const_fits rfl
theorem sRdLow : Statement .sRdLow := const_fits rfl
theorem sRdHigh : Statement .sRdHigh := const_fits rfl
theorem sRdRel : Statement .sRdRel := const_fits rfl
theorem sWrCap : Statement .sWrCap := const_fits rfl
theorem sWrLow : Statement .sWrLow := const_fits rfl
theorem sWrHigh : Statement .sWrHigh := const_fits rfl
theorem sStopped : Statement .sStopped := const_fits rfl
theorem sErr : Statement .sErr := const_fits rfl

end Sys2Proof.Laws.Row
end

