-- ==== Sys2Proof/Tests/Slice0.lean ====
section
/-! SUPPORT. Tests. Expected values are those of spec/95_test_vectors.md (the vector's name stands with
each test), of the encodings of spec/30_encoding.md R68 and spec/10_state.md R12, or of the rule cited.
The last part shows, for every statement with hypotheses, inputs that meet them. -/

namespace Sys2Proof.Tests

open Sys2Proof Sys2Proof.Machine

set_option Elab.async false

/-- REFMAP and the defaults, with a supply level that can be compared. -/
def cfg : Config := { refConfig with vlevel := 3 }

/-- TD of the vectors. -/
def TD : Mask := 0xFFFFFFFFFFFFFFFFFFFFFFFFFFFFFFFEFFCBFFFF

/-- TR of the vectors. -/
def TR : Mask := 0xFFFFFFFFFFFFFFFFFFFFFFFFFFFFFFBEFFCB0001

/-- S8's memory. -/
def mem8 : Memory :=
  [(0x7C00, 0x90), (0x7C01, 0xEB), (0x7C02, 0xFD), (0xFFFF0, 0xEA), (0xFFFF2, 0x7C)]

/-- The hand-over state of vectors 2.5 to 2.8. -/
def handover : State :=
  { State.reset with
    cfg := cfg, seq := .sIdle, out := 0x100240000, tri := TD, rcnt := 4, supplyEn := true,
    vlevelR := 3, vccR := 0x8000000000, gndR := 0x80001, tickLimit := some 1, mem := mem8 }

/-- The start of one tick with the environment samples E1, E2, E3. -/
def tickFrom (e1 e2 e3 : Mask) : State :=
  { handover with
    unit := .tick
    env := [.quiet, .level e1, .quiet, .level e2, .quiet, .level e3, .quiet, .quiet, .quiet] }

/-- One micro step from the state of SEQ `q` with the given pads. -/
def microFrom (q : Seq) (out tri : Mask) : State :=
  { handover with seq := q, out := out, tri := tri, env := List.replicate 3 PadEnv.quiet }

/-- The outcome is a next state with the property. -/
def nextIs (o : Host.Outcome State Fault Refusal) (p : State → Bool) : Bool :=
  match o with
  | .next s => p s
  | .fault _ => false
  | .refused _ => false

/-! ## The configuration check -/

theorem test_refConfig_accepted : refConfig.wf = true := by decide +kernel

/-- Two distinct roles on one pin (R27). -/
theorem test_wf_refuses_shared_pin :
    let c : Config := { cfg with pins := { refPins with hlda := refPins.ale } }
    c.injectiveOk = false ∧ c.wf = false := by decide +kernel

/-- VCC_MASK on the CLK pin (vector 2.2). -/
theorem test_wf_refuses_role_on_supply :
    let c : Config := { cfg with vccMask := 0x40000 }
    c.rolesOffSupply = false ∧ c.wf = false := by decide +kernel

/-- VCC and GND on one pin (R95). -/
theorem test_wf_refuses_supply_overlap :
    let c : Config := { cfg with gndMask := 0x8000000001 }
    c.supplyDisjoint = false ∧ c.wf = false := by decide +kernel

/-- RESET_CYCLES = 3 (vector RS3). -/
theorem test_wf_refuses_three_cycles :
    let c : Config := { cfg with resetCycles := 3 }
    c.resetCyclesOk = false ∧ c.wf = false := by decide +kernel

/-- ALWAYS_HIGH without READY (R5). -/
theorem test_wf_refuses_low_ready :
    let c : Config := { cfg with alwaysHigh := [.modeSelect] }
    c.alwaysHighOk = false ∧ c.wf = false := by decide +kernel

/-- ALWAYS_DRIVEN without CLK (R17). -/
theorem test_wf_refuses_floating_clock :
    let c : Config := { cfg with alwaysDriven := [.reset, .modeSelect, .ready] }
    c.alwaysDrivenOk = false ∧ c.wf = false := by decide +kernel

/-- A sampled role among ALWAYS_DRIVEN (R17). -/
theorem test_wf_refuses_driven_strobe :
    let c : Config := { cfg with alwaysDriven := .rd :: cfg.alwaysDriven }
    c.drivenNotSampled = false ∧ c.wf = false := by decide +kernel

/-- CLK held high (log 11). -/
theorem test_wf_refuses_clock_held_high :
    let c : Config := { cfg with alwaysHigh := .clk :: cfg.alwaysHigh }
    c.clockResetFree = false ∧ c.wf = false := by decide +kernel

/-- HOLD and an unnamed control line on pin 17 added to ALWAYS_DRIVEN (R192, 91 N2): accepted, driven, held
low; pin 23, which nothing binds, stays released. -/
def cfgHold : Config := { cfg with alwaysDriven := .hold :: .other (.of 17) :: cfg.alwaysDriven }

theorem test_wf_accepts_added_roles :
    cfgHold.wf = true ∧ cfgHold.triDefault = TD &&& ~~~ (0x40010000 : Mask) ∧
    cfgHold.ah = cfg.ah ∧ cfgHold.triDefault.getLsbD 22 = true := by decide +kernel

/-- An unnamed role on the pin of ALE, or on a ground pin (R27). -/
theorem test_wf_refuses_unnamed_role :
    (let c : Config := { cfg with alwaysDriven := .other (.of 25) :: cfg.alwaysDriven }
     c.injectiveOk = false ∧ c.wf = false) ∧
    (let c : Config := { cfg with alwaysDriven := .other (.of 20) :: cfg.alwaysDriven }
     c.rolesOffSupply = false ∧ c.wf = false) := by decide +kernel

/-- START with an ill-formed configuration is refused (RS3, U15). -/
theorem test_ill_formed_start_refused :
    exec .sOff { State.reset with start := true, cfg := { cfg with resetCycles := 3 } } =
      .refused .configRefused := by rfl

/-! ## Decoding: the words of 30 R68 and 10 R12, bit by bit -/

theorem test_decode_idle :
    decode .dw 0b00010110 = .ok (.idle 0b10110) ∧ decode .dw 0b00000000 = .ok (.idle 0) :=
  ⟨rfl, rfl⟩

theorem test_decode_reads :
    decode .dw 0b00101100 = .ok .rdMW ∧ decode .dw 0b00101101 = .ok .rdMUB ∧
    decode .dw 0b00101110 = .ok .rdMLB ∧ decode .dw 0b00101000 = .ok .rdIoW ∧
    decode .dw 0b00101001 = .ok .rdIoUB ∧ decode .dw 0b00101010 = .ok .rdIoLB :=
  ⟨rfl, rfl, rfl, rfl, rfl, rfl⟩

theorem test_decode_writes :
    decode .dw 0b00110100 = .ok .wrMW ∧ decode .dw 0b00110101 = .ok .wrMUB ∧
    decode .dw 0b00110110 = .ok .wrMLB ∧ decode .dw 0b00110000 = .ok .wrIoW ∧
    decode .dw 0b00110001 = .ok .wrIoUB ∧ decode .dw 0b00110010 = .ok .wrIoLB :=
  ⟨rfl, rfl, rfl, rfl, rfl, rfl⟩

theorem test_decode_errors :
    decode .dw 0b00111101 = .ok (.errDirNone 0b101) ∧
    decode .dw 0b00100110 = .ok (.errDirBoth 0b110) ∧
    decode .dw 0b00101111 = .ok (.errWidthRd 1) ∧ decode .dw 0b00110011 = .ok (.errWidthWr 0) :=
  ⟨rfl, rfl, rfl, rfl⟩

/-- Direction is decoded before width: 0x3B, 0x3F, 0x23, 0x27 (vector 2.4). -/
theorem test_decode_direction_first :
    decode .dw 0x3B = .ok (.errDirNone 3) ∧ decode .dw 0x3F = .ok (.errDirNone 7) ∧
    decode .dw 0x23 = .ok (.errDirBoth 3) ∧ decode .dw 0x27 = .ok (.errDirBoth 7) :=
  ⟨rfl, rfl, rfl, rfl⟩

theorem test_decode_reset_states :
    decode .sq 0b00000 = .ok .sOff ∧ decode .sq 0b00001 = .ok .sRs1 ∧
    decode .sq 0b00010 = .ok .sRs2 ∧ decode .sq 0b00011 = .ok .sRs3 ∧
    decode .sq 0b00100 = .ok .sRs4A ∧ decode .sq 0b00101 = .ok .sRs4L ∧
    decode .sq 0b00110 = .ok .sRs4H ∧ decode .sq 0b00111 = .ok .sRs5A ∧
    decode .sq 0b01000 = .ok .sRs5L ∧ decode .sq 0b01001 = .ok .sRs5H :=
  ⟨rfl, rfl, rfl, rfl, rfl, rfl, rfl, rfl, rfl, rfl⟩

theorem test_decode_engine_states :
    decode .sq 0b01010 = .ok .sIdle ∧ decode .sq 0b01011 = .ok .sILow ∧
    decode .sq 0b01100 = .ok .sIHigh ∧ decode .sq 0b01101 = .ok .sALow ∧
    decode .sq 0b01110 = .ok .sAHigh ∧ decode .sq 0b10110 = .ok .sStopped ∧
    decode .sq 0b10111 = .ok .sErr :=
  ⟨rfl, rfl, rfl, rfl, rfl, rfl, rfl⟩

theorem test_decode_transfer_states :
    decode .sq 0b01111 = .ok .sRdReq ∧ decode .sq 0b10000 = .ok .sRdLow ∧
    decode .sq 0b10001 = .ok .sRdHigh ∧ decode .sq 0b10010 = .ok .sRdRel ∧
    decode .sq 0b10011 = .ok .sWrCap ∧ decode .sq 0b10100 = .ok .sWrLow ∧
    decode .sq 0b10101 = .ok .sWrHigh :=
  ⟨rfl, rfl, rfl, rfl, rfl, rfl, rfl⟩

/-- Reserved codes and words wider than their format. -/
theorem test_decode_rejects :
    decode .sq 24 = .error .reservedSeqCode ∧ decode .sq 31 = .error .reservedSeqCode ∧
    decode .sq 32 = .error .sqTooWide ∧ decode .dw 0x40 = .error .dwTooWide :=
  ⟨rfl, rfl, rfl, rfl⟩

/-- The row counts of vector 2.4: 32 idle, 12 transfers, 20 illegal. -/
theorem test_decode_counts :
    ((List.range 64).countP fun n =>
      match decodeDw (BitVec.ofNat 6 n) with | .ok (.idle _) => true | _ => false) = 32 ∧
    ((List.range 64).countP fun n =>
      match decodeDw (BitVec.ofNat 6 n) with
      | .ok i => (readOps ++ writeOps).any fun x => x.1 == i
      | _ => false) = 12 := by decide +kernel

/-- Table words and the state that runs them. -/
theorem test_table_words :
    decodeTableWord 8 0x2C = some .rdMW ∧ decodeTableWord 8 0x0D = some .sALow ∧
    decodeTableWord 6 0x05 = some (.idle 5) ∧ decodeTableWord 5 0x05 = some .sRs4L ∧
    decodeTableWord 8 0x40 = none := ⟨rfl, rfl, rfl, rfl, rfl⟩

/-- Every DW word of an active tick, laid out by withFetchWord, is the word the next step fetches. -/
theorem test_fetch_laid_out_words :
    ((List.range 64).all fun n => n < 24 ||
      (let s := State.reset.withFetchWord 8 n
       (decode (fetch s).1 (fetch s).2).toOption.map encode ==
         (decodeTableWord 8 n).map fun i => match i with
           | .idle _ => encode (.idle 0)
           | i => encode i)) = true := by decide +kernel

theorem test_fetch_laid_out_codes :
    ((List.range 24).all fun n =>
      fetch (State.reset.withFetchWord 8 n) == (.sq, BitVec.ofNat 8 n)) = true := by decide +kernel

/-! ## Pin codec (vectors 2.1) -/

/-- pinBit(0) and pinBit(161) are refused by the type; a pin's number is the one it was given. -/
theorem test_pin_range :
    (∀ n h, (Pin.of n h).number = n) ∧ ¬ (1 ≤ 0 ∧ 0 ≤ 160) ∧ ¬ (1 ≤ 161 ∧ 161 ≤ 160) :=
  ⟨fun n h => Nat.sub_add_cancel h.1, by decide, by decide⟩

theorem test_pin_bits :
    pinBit (.of 1) = 0x1 ∧ pinBit (.of 40) = 0x8000000000 ∧
    pinBit (.of 160) = 0x8000000000000000000000000000000000000000 ∧
    pinsBitmask [] = 0 ∧ pinsBitmask [.of 16, .of 16] = 0x8000 ∧
    pinsBitmask [.of 19, .of 21, .of 22, .of 33] = 0x100340000 := by decide +kernel

theorem test_named_masks :
    cfg.ah = 0x100200000 ∧ cfg.bit .clk = 0x40000 ∧ cfg.triDefault = TD ∧ cfg.triRead = TR ∧
    cfg.data16 = 0x400000FFFE ∧ cfg.ad20 = 0x7C0000FFFE := by decide +kernel

theorem test_address_codec :
    cfg.addrMask 0x12345 = 0x200000A2C4 ∧ cfg.addrMask 0xAAAAA = 0x5400005554 ∧
    cfg.decodeAddress 0x7C00000FFE = 0xFFFF0 ∧ cfg.decodeAddress 0x7D99240FFE = 0xFFFF0 ∧
    cfg.decodeAddress (BitVec.allOnes 160) = 0xFFFFF := by decide +kernel

theorem test_data_codec :
    cfg.encodeDataToPins 0x1234 = [.of 14, .of 12, .of 11, .of 7, .of 4] ∧
    cfg.dataMask 0xBEEF = 0x400000F77C ∧ cfg.dataMask 0x00EA = 0x5700 ∧
    cfg.decodeData 0x188242C48 = 0x1234 ∧ cfg.decodeData 0x3C00000000 = 0 := by decide +kernel

/-- Sample results of vector 2.2. -/
theorem test_samples :
    sampled 0x100240000 TD 0x298000000 = 0x398240000 ∧
    sampled 0x100240000 TD (BitVec.allOnes 160) = ~~~ (0x100000 : Mask) ∧
    sampled 0x100240000 TD 0x100340000 = 0x100240000 ∧
    sampled 0x100245700 TR 0 = 0x100245700 ∧
    (sampled 0x100245700 TR (BitVec.allOnes 160)).extractLsb' 0 40 = 0xBFFFEF5701 := by
  decide +kernel

/-! ## Reset Sequencer (vector RS1), one step each -/

/-- A micro step ends in SEQ `q` after the one event Drive(out, TD). -/
def drove (out : Mask) (q : Seq) (t : State) : Bool :=
  t.seq == q && t.out == out && t.tri == TD && t.events == [.drive out TD]

theorem test_sOff :
    nextIs (step { State.reset with cfg := cfg, start := true })
      (fun t => t.seq == .sRs1 && t.events == []) = true ∧
    nextIs (step State.reset) (fun t => t.seq == .sOff && t.events == []) = true := by decide +kernel

theorem test_sRs1 :
    nextIs (step { microFrom .sRs1 0 (BitVec.allOnes 160) with rcnt := 2, ticks := 9 }) (fun t =>
      t.seq == .sRs2 && t.out == 0 && t.tri == TD && t.events == [.init, .drive 0 TD] &&
      t.ticks == 0 && t.rcnt == 0 && !t.supplyEn) = true := by decide +kernel

theorem test_sRs2 :
    nextIs (step { microFrom .sRs2 0 TD with supplyEn := false, vccR := 0 }) (fun t =>
      t.seq == .sRs3 && t.events == [.power 3 0x8000000000 0x80001] && t.supplyEn &&
      t.vccR == 0x8000000000 && t.gndR == 0x80001) = true := by decide +kernel

theorem test_sRs3 :
    nextIs (step (microFrom .sRs3 0 TD)) (drove 0x100240000 .sRs4A) = true := by decide +kernel

theorem test_sRs4A :
    nextIs (step (microFrom .sRs4A 0x100240000 TD))
      (fun t => drove 0x100340000 .sRs4L t && t.rcnt == 0) = true := by decide +kernel

theorem test_sRs4L :
    nextIs (step (microFrom .sRs4L 0x100340000 TD)) (drove 0x100300000 .sRs4H) = true := by
  decide +kernel

theorem test_sRs4H_counts :
    nextIs (step { microFrom .sRs4H 0x100300000 TD with rcnt := 2 })
      (fun t => drove 0x100340000 .sRs4L t && t.rcnt == 3) = true := by decide +kernel

theorem test_sRs4H_last :
    nextIs (step { microFrom .sRs4H 0x100300000 TD with rcnt := 3 })
      (fun t => drove 0x100340000 .sRs5A t && t.rcnt == 4) = true := by decide +kernel

theorem test_sRs5A :
    nextIs (step (microFrom .sRs5A 0x100340000 TD)) (drove 0x100240000 .sRs5L) = true := by
  decide +kernel

theorem test_sRs5L :
    nextIs (step (microFrom .sRs5L 0x100240000 TD)) (drove 0x100200000 .sRs5H) = true := by
  decide +kernel

theorem test_sRs5H :
    nextIs (step (microFrom .sRs5H 0x100200000 TD)) (drove 0x100240000 .sIdle) = true := by
  decide +kernel

/-! ## Engine, micro steps -/

/-- The stop test comes first: TICKS 1 >= TICK_LIMIT 1 (vector I1's last line). -/
theorem test_sIdle_stops :
    nextIs (step { handover with ticks := 1 }) (fun t =>
      t.seq == .sStopped && t.events == [.halt .stop] && t.out == 0x100240000) = true := by
  decide +kernel

/-- S1 and the address of T1. -/
theorem test_sIdle_latches :
    nextIs (step { handover with env := [.quiet, .level 0x7C99000FFE] }) (fun t =>
      t.seq == .sALow && t.s1 == 0x7D99240FFE && t.latch.addr == 0xFFFF0 && t.ticks == 1) = true := by
  decide +kernel

theorem test_sILow :
    nextIs (step (microFrom .sILow 0x100240000 TD)) (drove 0x100200000 .sIHigh) = true := by
  decide +kernel

theorem test_sIHigh :
    nextIs (step (microFrom .sIHigh 0x100200000 TD)) (drove 0x100240000 .sIdle) = true := by
  decide +kernel

/-- S2 of T4 at LATCH.ADDR = 0x7C00: a Memory LowerByte Read. -/
theorem test_sALow_decodes :
    nextIs (step { handover with
        seq := .sALow, latch := ⟨0x7C00, .write, .io, .word⟩,
        env := [.quiet, .level 0x218000000] }) (fun t =>
      t.seq == .sAHigh && t.s2 == 0x318200000 &&
      t.latch == ⟨0x7C00, .read, .memory, .lowerByte⟩) = true := by decide +kernel

/-- X4a: no strobe low and the invalid width pair give DirNone. -/
theorem test_sALow_raises :
    nextIs (step { handover with
        seq := .sALow, latch := ⟨0x2001, .read, .memory, .word⟩,
        env := [.quiet, .level 0x290000000] }) (fun t =>
      t.seq == .sErr && t.s2 == 0x390200000 && t.err == .dirNone && t.errInfo == .dw 0x3B &&
      t.out == 0x100200000) = true := by decide +kernel

theorem test_sAHigh_read :
    nextIs (step { microFrom .sAHigh 0x100200000 TD with latch := ⟨0, .read, .io, .word⟩ })
      (drove 0x100240000 .sRdReq) = true := by decide +kernel

theorem test_sAHigh_write :
    nextIs (step { microFrom .sAHigh 0x100200000 TD with latch := ⟨0, .write, .io, .word⟩ })
      (drove 0x100240000 .sWrCap) = true := by decide +kernel

theorem test_sStopped_absorbs :
    nextIs (step (microFrom .sStopped 0x100240000 TD))
      (fun t => t.seq == .sStopped && t.events == []) = true := by decide +kernel

theorem test_sErr_absorbs :
    nextIs (step (microFrom .sErr 0x100200000 TD))
      (fun t => t.seq == .sErr && t.events == []) = true := by decide +kernel

/-! ## Executor, micro steps (T1 and T8) -/

theorem test_sRdReq :
    nextIs (step { microFrom .sRdReq 0x100240000 TD with latch := ⟨0xFFFF0, .read, .memory, .word⟩ })
      (fun t => t.seq == .sRdLow && t.data == 0x00EA &&
        t.events == [.drive 0x100240000 TD, .read .memory 0xFFFF0 .word 0x00EA]) = true := by
  decide +kernel

/-- X5: the answer 0x10000 is a ContractViolation with the data pins released and DATA not written. -/
theorem test_sRdReq_violates :
    nextIs (step { microFrom .sRdReq 0x100240000 TD with
        latch := ⟨0x1000, .read, .memory, .word⟩, answers := [.other 0x10000], data := 7 }) (fun t =>
      t.seq == .sErr && t.err == .contractViolation && t.errInfo == .value 0x10000 &&
      t.tri == TD && t.data == 7 && t.events == [.drive 0x100240000 TD,
        .read .memory 0x1000 .word 0x10000, .halt (.error .contractViolation)]) = true := by
  decide +kernel

theorem test_sRdLow :
    nextIs (step { microFrom .sRdLow 0x100240000 TD with data := 0x00EA }) (fun t =>
      t.seq == .sRdHigh && t.out == 0x100205700 && t.tri == TR &&
      t.events == [.drive 0x100205700 TR]) = true := by decide +kernel

theorem test_sRdHigh :
    nextIs (step { microFrom .sRdHigh 0x100205700 TR with data := 0x00EA }) (fun t =>
      t.seq == .sRdRel && t.out == 0x100245700 && t.tri == TR) = true := by decide +kernel

/-- X6: the Drive of S_RD_HIGH fails; the data pins stay driven. -/
theorem test_sRdHigh_fails :
    nextIs (step { microFrom .sRdHigh 0x100205700 TR with
        data := 0x00EA, env := [⟨true, 0, 0⟩] }) (fun t =>
      t.seq == .sErr && t.err == .adapterIo && t.out == 0x100205700 && t.tri == TR &&
      t.events == [.halt (.error .adapterIo)]) = true := by decide +kernel

theorem test_sRdRel :
    nextIs (step { microFrom .sRdRel 0x100245700 TR with
        data := 0x00EA, verbose := true, ticks := 1, latch := ⟨0xFFFF0, .read, .memory, .word⟩ })
      (fun t => drove 0x100240000 .sIdle t &&
        t.trace == [.transfer 1 ⟨0xFFFF0, .read, .memory, .word⟩ 0x00EA]) = true := by decide +kernel

theorem test_sWrCap :
    nextIs (step { microFrom .sWrCap 0x100240000 TD with
        latch := ⟨0x1000, .write, .memory, .word⟩, mem := [], env := [.level 0x88002C48] }) (fun t =>
      t.seq == .sWrLow && t.s3 == 0x188242C48 && t.data == 0x1234 &&
      t.mem == [(0x1000, 0x34), (0x1001, 0x12)] &&
      t.events == [.sample 0x188242C48, .write .memory 0x1000 0x1234 .word]) = true := by
  decide +kernel

theorem test_sWrLow :
    nextIs (step (microFrom .sWrLow 0x100240000 TD)) (drove 0x100200000 .sWrHigh) = true := by
  decide +kernel

theorem test_sWrHigh :
    nextIs (step (microFrom .sWrHigh 0x100200000 TD)) (drove 0x100240000 .sIdle) = true := by
  decide +kernel

/-! ## Whole ticks (vectors 2.5 to 2.8) -/

/-- What a read vector shows of the state after its tick. -/
def readShows (s1 s2 : Mask) (l : Latch) (r : Nat) (d : Data) (low high : Mask) (s t : State) :
    Bool :=
  t.seq == .sIdle && t.out == 0x100240000 && t.tri == TD && t.s1 == s1 && t.s2 == s2 &&
  t.latch == l && t.data == d && t.ticks == 1 && t.err == .none && t.mem == s.mem && t.io == s.io &&
  t.events == [.drive 0x100240000 TD, .sample s1, .drive 0x100200000 TD, .sample s2,
    .drive 0x100240000 TD, .drive 0x100240000 TD, .read l.space l.addr l.width r,
    .drive low TR, .drive high TR, .drive 0x100240000 TD]

/-- A read vector run by one step. -/
def readRuns (s : State) (s1 s2 : Mask) (l : Latch) (r : Nat) (d : Data) (low high : Mask) : Bool :=
  nextIs (step s) (readShows s1 s2 l r d low high s)

/-- T1. -/
theorem test_rdMW :
    readRuns (tickFrom 0x7C99000FFE 0x18000000 0) 0x7D99240FFE 0x118200000
      ⟨0xFFFF0, .read, .memory, .word⟩ 0x00EA 0x00EA 0x100205700 0x100245700 = true := by
  decide +kernel

/-- T1a: the address is latched at S1 only. -/
theorem test_rdMW_latches_once :
    nextIs (step (tickFrom 0x7C99000FFE 0x1800003E 0)) (fun t =>
      t.latch == ⟨0xFFFF0, .read, .memory, .word⟩ && t.data == 0x00EA) = true := by decide +kernel

/-- T2. -/
theorem test_rdMUB :
    readRuns (tickFrom 0x9900803E 0x18000000 0) 0x19924803E 0x118200000
      ⟨0x7C01, .read, .memory, .upperByte⟩ 0xEB 0x00EB 0x10020D700 0x10024D700 = true := by
  decide +kernel

/-- T3: UB_READ_SHIFT = 8. -/
theorem test_rdMUB_shifted :
    readRuns { tickFrom 0x9900803E 0x18000000 0 with cfg := { cfg with ubReadShift := .by8 } }
      0x19924803E 0x118200000 ⟨0x7C01, .read, .memory, .upperByte⟩ 0xEB 0xEB00
      0x41002000D6 0x41002400D6 = true := by decide +kernel

/-- T4. -/
theorem test_rdMLB :
    readRuns (tickFrom 0x29900003E 0x218000000 0) 0x39924003E 0x318200000
      ⟨0x7C00, .read, .memory, .lowerByte⟩ 0x90 0x0090 0x100200900 0x100240900 = true := by
  decide +kernel

/-- T5. -/
theorem test_rdIoW :
    readRuns { tickFrom 0x91001FC0 0x10000000 0 with io := [(0x3F8, 0x34), (0x3F9, 0x12)] }
      0x191241FC0 0x110200000 ⟨0x3F8, .read, .io, .word⟩ 0x1234 0x1234
      0x100202C48 0x100242C48 = true := by decide +kernel

/-- T6. -/
theorem test_rdIoUB :
    readRuns { tickFrom 0x91009FC0 0x10000000 0 with io := [(0x3F9, 0x12)] }
      0x191249FC0 0x110200000 ⟨0x3F9, .read, .io, .upperByte⟩ 0x12 0x0012
      0x100204800 0x100244800 = true := by decide +kernel

/-- T7. -/
theorem test_rdIoLB :
    readRuns (tickFrom 0x291001FC0 0x210000000 0) 0x391241FC0 0x310200000
      ⟨0x3F8, .read, .io, .lowerByte⟩ 0 0 0x100200000 0x100240000 = true := by decide +kernel

/-- A write vector run by one step from empty stores. -/
def writeRuns (e1 e2 e3 s1 s2 s3 : Mask) (l : Latch) (d : Data) (mem io : Memory) : Bool :=
  nextIs (step { tickFrom e1 e2 e3 with mem := [] }) fun t =>
    t.seq == .sIdle && t.out == 0x100240000 && t.tri == TD && t.s1 == s1 && t.s2 == s2 &&
    t.s3 == s3 && t.latch == l && t.data == d && t.ticks == 1 && t.mem == mem && t.io == io &&
    t.events == [.drive 0x100240000 TD, .sample s1, .drive 0x100200000 TD, .sample s2,
      .drive 0x100240000 TD, .sample s3, .write l.space l.addr d l.width,
      .drive 0x100200000 TD, .drive 0x100240000 TD]

/-- T8. -/
theorem test_wrMW :
    writeRuns 0x99000008 0x88002C48 0x88002C48 0x199240008 0x188202C48 0x188242C48
      ⟨0x1000, .write, .memory, .word⟩ 0x1234 [(0x1000, 0x34), (0x1001, 0x12)] [] = true := by
  decide +kernel

/-- T9. -/
theorem test_wrMUB :
    writeRuns 0x99008004 0x40880000A4 0x40880000A4 0x199248004 0x41882000A4 0x41882400A4
      ⟨0x2001, .write, .memory, .upperByte⟩ 0xA500 [(0x2001, 0xA5)] [] = true := by decide +kernel

/-- T9a: the inactive lane is forwarded unchanged. -/
theorem test_wrMUB_forwards_whole :
    nextIs (step { tickFrom 0x99008004 0x40880000A4 (0x88000000 ||| cfg.dataMask 0xA5C3) with mem := [] })
      (fun t => t.mem == [(0x2001, 0xA5)] && t.data == 0xA5C3 &&
        t.events.contains (.write .memory 0x2001 0xA5C3 .upperByte)) = true := by decide +kernel

/-- T10. -/
theorem test_wrMLB :
    writeRuns 0x299000004 0x288005A00 0x288005A00 0x399240004 0x388205A00 0x388245A00
      ⟨0x2000, .write, .memory, .lowerByte⟩ 0x005A [(0x2000, 0x5A)] [] = true := by decide +kernel

/-- T11. -/
theorem test_wrIoW :
    writeRuns 0x91001FC0 0x408000AA54 0x408000AA54 0x191241FC0 0x418020AA54 0x418024AA54
      ⟨0x3F8, .write, .io, .word⟩ 0xAA55 [] [(0x3F8, 0x55), (0x3F9, 0xAA)] = true := by decide +kernel

/-- T12. -/
theorem test_wrIoUB :
    writeRuns 0x91009FC0 0x40800000A4 0x40800000A4 0x191249FC0 0x41802000A4 0x41802400A4
      ⟨0x3F9, .write, .io, .upperByte⟩ 0xA500 [] [(0x3F9, 0xA5)] = true := by decide +kernel

/-- T13. -/
theorem test_wrIoLB :
    writeRuns 0x291001FC0 0x280005A00 0x280005A00 0x391241FC0 0x380205A00 0x380245A00
      ⟨0x3F8, .write, .io, .lowerByte⟩ 0x005A [] [(0x3F8, 0x5A)] = true := by decide +kernel

/-- An idle tick from E. -/
def idleRuns (e s1 : Mask) : Bool :=
  nextIs (step (tickFrom e 0 0)) fun t =>
    t.seq == .sIdle && t.ticks == 1 && t.s1 == s1 && t.latch == handover.latch && t.data == 0 &&
    t.events == [.drive 0x100240000 TD, .sample s1, .drive 0x100200000 TD, .drive 0x100240000 TD]

/-- I1, I2. -/
theorem test_idle :
    idleRuns 0x298000000 0x398240000 = true ∧ idleRuns 0x7C0000FFFE 0x7D0024FFFE = true := by
  decide +kernel

/-- A tick that ends in a DecodeError (trace of 2.8). -/
def errorRuns (e1 e2 s1 s2 : Mask) (a : Addr) (e : Err) (d : DecodeWord) : Bool :=
  nextIs (step (tickFrom e1 e2 0)) fun t =>
    t.seq == .sErr && t.err == e && t.errInfo == .dw d && t.out == 0x100200000 && t.tri == TD &&
    t.ticks == 1 && t.latch == { handover.latch with addr := a } &&
    t.events == [.drive 0x100240000 TD, .sample s1, .drive 0x100200000 TD, .sample s2,
      .halt (.error e)]

/-- X1. -/
theorem test_errDirNone :
    errorRuns 0x299000008 0x98000000 0x399240008 0x198200000 0x1000 .dirNone 0x3C = true := by
  decide +kernel

/-- X2. -/
theorem test_errDirBoth :
    errorRuns 0x299000008 0x8000000 0x399240008 0x108200000 0x1000 .dirBoth 0x24 = true := by
  decide +kernel

/-- X3. -/
theorem test_errWidthRd :
    errorRuns 0x299008004 0x218000000 0x399248004 0x318200000 0x2001 .width 0x2F = true := by
  decide +kernel

/-- X4. -/
theorem test_errWidthWr :
    errorRuns 0x299008004 0x280000000 0x399248004 0x380200000 0x2001 .width 0x33 = true := by
  decide +kernel

/-- X9: a backend that never answers. -/
theorem test_silent_backend :
    nextIs (step { tickFrom 0x7C99000FFE 0x18000000 0 with answers := [.silent] }) (fun t =>
      t.seq == .sRdReq && t.waiting && t.err == .none && t.out == 0x100240000 && t.tri == TD &&
      (match step t with | .fault .backendSilent => true | _ => false)) = true := by decide +kernel

/-- The answer that hung belongs to one request: after the block's reset the next one is served (log 8). -/
theorem test_silent_answer_is_used_up :
    nextIs (step { microFrom .sRdReq 0x100240000 TD with answers := [.silent, .other 7] }) (fun t =>
      t.waiting && t.answers == [.other 7] && t.events == [.drive 0x100240000 TD] &&
      (blockReset t).answers == [.other 7] && !(blockReset t).waiting) = true := by decide +kernel

/-! ## Reference backend (vectors 2.9) -/

theorem test_backend_reads :
    mem8.read 0xFFFF2 .word = some 0x007C ∧ mem8.read 0xFFFF4 .word = some 0 ∧
    mem8.read 0x7C00 .word = some 0xEB90 ∧ mem8.read 0x7C02 .word = some 0x00FD ∧
    mem8.read 0x7C01 .upperByte = some 0xEB ∧ mem8.read 0x7C00 .lowerByte = some 0x90 := by
  decide +kernel

theorem test_backend_writes :
    Memory.write [] 0x2000 0xBEEF .word = some [(0x2000, 0xEF), (0x2001, 0xBE)] ∧
    Memory.write [] 0x2001 0xBEEF .upperByte = some [(0x2001, 0xBE)] ∧
    Memory.write [] 0x2000 0xBEEF .lowerByte = some [(0x2000, 0xEF)] ∧
    Memory.write [(0x2000, 0xEF), (0x2001, 0xBE)] 0x2001 0x1200 .upperByte =
      some [(0x2000, 0xEF), (0x2001, 0x12)] := by decide +kernel

/-- T1b: the top of memory, and the one address a Word cannot start at. -/
theorem test_backend_top :
    Memory.read [] 0xFFFFE .word = some 0 ∧ Memory.read [] 0xFFFFF .word = none ∧
    Memory.write [(5, 1)] 5 0 .lowerByte = some [] := by decide +kernel

/-! ## Witnesses: inputs that meet the hypotheses of the statements -/

/-- An environment without failure and without a driving processor meets every premise. -/
theorem quiet_padOk {s : State} (h : (s.env.all fun r => !r.fails && r.drives == 0) = true)
    (k : Nat) (out tri : Mask) : s.padOk k out tri := by
  have hk : (s.envAt k).fails = false ∧ (s.envAt k).drives = 0 := by
    unfold State.envAt
    cases he : s.env[k]? with
    | none => exact ⟨rfl, rfl⟩
    | some r =>
      have := List.all_eq_true.mp h r (List.mem_of_getElem? he)
      simpa [Bool.and_eq_true] using this
  exact ⟨hk.1, by simp [PadEnv.contends, hk.2]⟩

theorem quiet_padsOk {s : State} (h : (s.env.all fun r => !r.fails && r.drives == 0) = true)
    (l : List (Mask × Mask)) : ∀ k, s.padsOk k l := by
  induction l with
  | nil => exact fun _ => trivial
  | cons p l ih => exact fun k => ⟨quiet_padOk h k _ _, ih (k + 1)⟩

theorem next_of_check {o : Host.Outcome State Fault Refusal} {p : State → Bool}
    (h : nextIs o p = true) : ∃ t, o = .next t ∧ p t = true := by
  cases o with
  | next t => exact ⟨t, rfl, h⟩
  | fault _ => cases h
  | refused _ => cases h

/-- A state of SEQ `q` as the invariant describes it, with data 0xFFFF and a latched cycle. -/
def stateAt (q : Seq) : State :=
  { handover with
    seq := q
    out := (padsAt cfg 0xFFFF q).1
    tri := (padsAt cfg 0xFFFF q).2
    data := 0xFFFF
    latch := ⟨0xFFFFE, if q = .sWrCap ∨ q = .sWrLow ∨ q = .sWrHigh then .write else .read,
      .memory, .word⟩
    err := if q = .sErr then .dirNone else .none
    errInfo := if q = .sErr then .dw 0x3C else .none
    rcnt := if q = .sRs4L ∨ q = .sRs4H then 3
      else if q.status = .off ∨ q = .sRs1 ∨ q = .sRs2 ∨ q = .sRs3 ∨ q = .sRs4A then 0 else 4
    supplyEn := !(q = .sOff ∨ q = .sRs1 ∨ q = .sRs2)
    env := List.replicate 9 PadEnv.quiet }

/-- Every SEQ value but S_ERR has a state that meets the invariant. -/
theorem test_witness_MachineInv : ∀ q : Seq, q ≠ .sErr → MachineInv (stateAt q) := by
  intro q hq
  constructor
  case pads => intro _; rfl
  case padsKept => exact fun h => absurd h hq
  case released => exact fun h => absurd h hq
  case errSet => simp [stateAt, hq]
  case errFits => simp [stateAt, hq, errInfoFits]
  case cfgOk => intro _; exact (by decide +kernel : cfg.wf = true)
  case progress =>
    cases q <;> simp [progressAt, stateAt, handover, Seq.status, cfg, refConfig]
  case supply => intro _; exact ⟨rfl, rfl, rfl⟩
  case latchOk =>
    cases q <;> simp [latchAt, stateAt, Latch.aligned]
  case memOk => exact (by decide +kernel : mem8.wf = true)
  case ioOk => rfl
  case waits => simp [stateAt, handover, State.reset]

/-- And so has S_ERR: after a DecodeError, and after an AdapterIoError with the data pins driven. -/
theorem test_witness_MachineInv_err :
    MachineInv { stateAt .sErr with out := cfg.clkLow, tri := cfg.triDefault } ∧
    MachineInv { stateAt .sErr with
      err := .adapterIo, errInfo := .none, out := cfg.clkLow ||| cfg.dataMask 0xFFFF,
      tri := cfg.triRead } := by
  have hw : cfg.wf = true := by decide +kernel
  have hm : mem8.wf = true := by decide +kernel
  constructor
  · exact ⟨fun h => absurd rfl h, fun _ => ⟨.sIHigh, by simp, rfl⟩, fun _ _ => ⟨rfl, rfl⟩,
      by simp [stateAt], ⟨_, rfl⟩, fun _ => hw, by simp [progressAt, stateAt, handover, Seq.status, cfg, refConfig],
      fun _ => ⟨rfl, rfl, rfl⟩, trivial, hm, rfl, by simp [stateAt, handover, State.reset]⟩
  · exact ⟨fun h => absurd rfl h, fun _ => ⟨.sRdHigh, by simp, rfl⟩, fun _ h => absurd rfl h,
      by simp [stateAt], rfl, fun _ => hw, by simp [progressAt, stateAt, handover, Seq.status, cfg, refConfig],
      fun _ => ⟨rfl, rfl, rfl⟩, trivial, hm, rfl, by simp [stateAt, handover, State.reset]⟩

/-- SOffWaitsForStart. -/
theorem test_witness_start :
    State.reset.start = false ∧
    (let s : State := { State.reset with start := true }
     s.start = true ∧ s.cfg.wf = true) ∧
    (let s : State := { State.reset with start := true, cfg := { cfg with resetCycles := 3 } }
     s.start = true ∧ s.cfg.wf = false) := by decide +kernel

/-- SRs1InitialisesPads, SRs2EnablesSupply, SequencerDrives, ResetPeriodsCounted, EngineHalfCycles,
SRdReqForwardsAnswer, ReadDrivesHoldsReleases, SWrCapForwardsWhole, WriteTogglesTwice, IdleTick,
SALowDecodes: the premises on the environment, at every SEQ value and for every list of pads. -/
theorem test_witness_pads (q : Seq) (k : Nat) (l : List (Mask × Mask)) (out tri : Mask) :
    (stateAt q).padsOk k l ∧ (stateAt q).padOk k out tri :=
  ⟨quiet_padsOk rfl l k, quiet_padOk rfl k out tri⟩

/-- ResetSequenceTrace. -/
theorem test_witness_ResetSequenceTrace :
    let s : State := { State.reset with start := true }
    s.seq = .sOff ∧ s.start = true ∧ s.cfg.wf = true ∧ s.host = [] ∧
      ∀ k, k < 8 + 2 * s.cfg.resetCycles → (s.envAt k).fails = false ∧
        (s.envAt k).drives &&& ~~~ s.cfg.triDefault = 0 := by
  refine ⟨rfl, rfl, by decide +kernel, rfl, fun k _ => ?_⟩
  have h : State.envAt { State.reset with start := true } k = PadEnv.free (0 + k) := by
    simp [State.envAt, State.reset]
  rw [h]
  exact ⟨rfl, by simp [PadEnv.free]⟩

/-- ResetSequencerOpenLoop: one state under two environments. -/
theorem test_witness_ResetSequencerOpenLoop :
    Instr.sRs3 ∈ sequencerOps ∧
    (∀ k, ((stateAt .sRs3).envAt k).fails = false) ∧
    (∀ k, (State.envAt { stateAt .sRs3 with env := [], draws := 5 } k).fails = false) ∧
    (∃ t, exec .sRs3 (stateAt .sRs3) = .next t) ∧
    ∃ u, exec .sRs3 { stateAt .sRs3 with env := [], draws := 5 } = .next u := by
  refine ⟨by decide, fun k => (quiet_padOk rfl k 0 0).1, fun k => (quiet_padOk rfl k 0 0).1, ?_, ?_⟩
  · obtain ⟨t, h, -⟩ := next_of_check (p := fun _ => true)
      (by decide +kernel : nextIs (exec .sRs3 (stateAt .sRs3)) (fun _ => true) = true)
    exact ⟨t, h⟩
  · have h : State.padOk { stateAt .sRs3 with env := [], draws := 5 } 0 cfg.clkHigh
        (stateAt .sRs3).tri := quiet_padOk rfl 0 _ _
    exact ⟨_, by
      show Res.outcome (driveThen cfg.clkHigh .sRs4A
        { stateAt .sRs3 with env := [], draws := 5 }) = _
      unfold driveThen
      rw [drive_full h]
      rfl⟩

/-- SIdleStops, both reasons. -/
theorem test_witness_SIdleStops :
    { stateAt .sIdle with stopReq := true }.stopReq = true ∧
    (∃ n, { stateAt .sIdle with ticks := 1 }.tickLimit = some n ∧
      n ≤ { stateAt .sIdle with ticks := 1 }.ticks) := ⟨rfl, ⟨1, rfl, Nat.le_refl 1⟩⟩

/-- SIdleSamplesAndLatches, both levels of ALE; TICKS is one below TICK_LIMIT. -/
theorem test_witness_SIdleSamplesAndLatches (e : Mask) (he : e = 0x7C99000FFE ∨ e = 0x298000000) :
    let s := tickFrom e 0 0
    s.stopReq = false ∧ (∀ n, s.tickLimit = some n → s.ticks < n) ∧
    s.padsOk 0 [(s.cfg.clkHigh, s.tri), (s.cfg.clkHigh, s.tri)] ∧
    (s.cfg.lvl (sampled s.cfg.clkHigh s.tri (s.envAt 1).levels) .ale = s.cfg.aleActiveLevel ↔
      e = 0x7C99000FFE) := by
  refine ⟨rfl, ?_, quiet_padsOk rfl _ _, ?_⟩
  · intro n h
    cases h
    exact Nat.one_pos
  · rcases he with rfl | rfl <;> decide +kernel

/-- SAHighDispatches: both directions. -/
theorem test_witness_sAHigh :
    (stateAt .sAHigh).latch.dir = .read ∧
    { stateAt .sAHigh with latch := ⟨0xFFFFE, .write, .io, .word⟩ }.latch.dir = .write := ⟨rfl, rfl⟩

/-- The state of S_A_LOW with the latched address `a` and the environment E2 = `e`. -/
def aLowAt (a : Addr) (e : Mask) : State :=
  { stateAt .sALow with
    latch := ⟨a, .read, .memory, .word⟩, env := [.quiet, .level e, .quiet] }

/-- SALowDecodes: its six clauses, by E2 of the vectors X1, X2, X3, T1, T2, T4, and with the write strobe
by E2 of X4, T8, T9, T10. -/
theorem test_witness_SALowDecodes :
    (let lv (s : State) :=
      (s.cfg.lvl (sampled s.cfg.clkLow s.tri (s.envAt 1).levels) .rd,
        s.cfg.lvl (sampled s.cfg.clkLow s.tri (s.envAt 1).levels) .wr,
        s.cfg.lvl (sampled s.cfg.clkLow s.tri (s.envAt 1).levels) .bhe, s.latch.addr.getLsbD 0)
    lv (aLowAt 0x1000 0x98000000) = (true, true, false, false) ∧
    lv (aLowAt 0x1000 0x8000000) = (false, false, false, false) ∧
    lv (aLowAt 0x2001 0x218000000) = (false, true, true, true) ∧
    lv (aLowAt 0xFFFF0 0x18000000) = (false, true, false, false) ∧
    lv (aLowAt 0x7C01 0x18000000) = (false, true, false, true) ∧
    lv (aLowAt 0x7C00 0x218000000) = (false, true, true, false) ∧
    lv (aLowAt 0x2001 0x280000000) = (true, false, true, true) ∧
    lv (aLowAt 0x1000 0x88002C48) = (true, false, false, false) ∧
    lv (aLowAt 0x2001 0x40880000A4) = (true, false, false, true) ∧
    lv (aLowAt 0x2000 0x288005A00) = (true, false, true, false)) ∧
    ∀ a e, (aLowAt a e).padsOk 0
      [((aLowAt a e).cfg.clkLow, (aLowAt a e).tri), ((aLowAt a e).cfg.clkLow, (aLowAt a e).tri)] :=
  ⟨by decide +kernel, fun _ _ => quiet_padsOk rfl _ _⟩

/-- SequentialDecodeIsTable, ReadOperations, WriteOperations, ErrorEncodingsAbort: the rows. -/
theorem test_witness_rows :
    (Instr.rdIoLB, Space.io, Width.lowerByte) ∈ readOps ∧
    (Instr.wrMW, Space.memory, Width.word) ∈ writeOps ∧
    errorCause (.errDirNone 7) = some (.dirNone, 0x3F) ∧
    errorCause (.errDirBoth 0) = some (.dirBoth, 0x20) ∧
    errorCause (.errWidthRd 0) = some (.width, 0x2B) ∧
    errorCause (.errWidthWr 1) = some (.width, 0x37) := by decide +kernel

/-- The start of a tick, for ErrorEncodingsAbort, ReadOperations, WriteOperations,
TickIsItsMicroSteps. -/
theorem test_witness_tick :
    let s := tickFrom 0x7C99000FFE 0x18000000 0
    s.cfg.wf = true ∧ s.tri = s.cfg.triDefault ∧ s.waiting = false ∧ s.seq = .sIdle ∧
      s.stopTest = false ∧ s.host = [] ∧ (∀ k l, s.padsOk k l) :=
  ⟨by decide +kernel, by decide +kernel, rfl, rfl, rfl, rfl, fun k l => quiet_padsOk rfl l k⟩

/-- SRdReqForwardsAnswer: an UpperByte read with UB_READ_SHIFT = 8, at 255 (fits) and 256 (does not). -/
theorem test_witness_SRdReqForwardsAnswer_shifted (r : Nat) (hr : r = 255 ∨ r = 256) :
    let s : State := { stateAt .sRdReq with
      cfg := { cfg with ubReadShift := .by8 }, latch := ⟨0x7C01, .read, .memory, .upperByte⟩,
      answers := [.other r] }
    s.waiting = false ∧ s.padOk 0 s.out s.cfg.triDefault ∧
      s.answersRead s.latch.space s.latch.addr s.latch.width r ∧
      readValue s.cfg s.latch.width r = r * 256 ∧ (r * 256 ≤ 65535 ↔ r = 255) := by
  refine ⟨rfl, quiet_padOk rfl _ _ _, .inr rfl, ?_, ?_⟩
  · rcases hr with rfl | rfl <;> decide +kernel
  · omega

/-- SRdReqForwardsAnswer: a reference answer, and answers that give 65535 and 65536. -/
theorem test_witness_SRdReqForwardsAnswer :
    (let s := stateAt .sRdReq
     s.waiting = false ∧ s.padOk 0 s.out s.cfg.triDefault ∧
       s.answersRead s.latch.space s.latch.addr s.latch.width 0) ∧
    ∀ r : Nat, let s : State := { stateAt .sRdReq with answers := [.other r] }
      s.waiting = false ∧ s.padOk 0 s.out s.cfg.triDefault ∧
        s.answersRead s.latch.space s.latch.addr s.latch.width r :=
  ⟨⟨rfl, quiet_padOk rfl _ _ _, .inl ⟨rfl, by decide +kernel⟩⟩,
    fun _ => ⟨rfl, quiet_padOk rfl _ _ _, .inr rfl⟩⟩

/-- ReadOperations: T1. -/
theorem test_witness_ReadOperations :
    let s := tickFrom 0x7C99000FFE 0x18000000 0
    (Instr.rdMW, Space.memory, Width.word) ∈ readOps ∧ s.cfg.wf = true ∧
    s.tri = s.cfg.triDefault ∧ s.waiting = false ∧ s.answersRead .memory (tickAddr s) .word 0x00EA ∧
    readValue s.cfg .word 0x00EA ≤ 65535 ∧
    s.padsOk 0 (readPads s.cfg (BitVec.ofNat 16 (readValue s.cfg .word 0x00EA))) :=
  ⟨by decide, by decide +kernel, by decide +kernel, rfl, .inl ⟨rfl, by decide +kernel⟩,
    by decide +kernel, quiet_padsOk rfl _ _⟩

/-- SWrCapForwardsWhole: a write the reference backend stores and one another backend accepts. -/
theorem test_witness_SWrCapForwardsWhole :
    (let s := stateAt .sWrCap
     let d := s.cfg.decodeData (sampled s.out s.tri (s.envAt 0).levels)
     s.waiting = false ∧ s.padOk 0 s.out s.tri ∧
       ∃ m, s.acceptsWrite s.latch.space s.latch.addr d s.latch.width m) ∧
    (let s : State := { stateAt .sWrCap with answers := [.other 0] }
     let d := s.cfg.decodeData (sampled s.out s.tri (s.envAt 0).levels)
     s.waiting = false ∧ s.padOk 0 s.out s.tri ∧
       ∃ m, s.acceptsWrite s.latch.space s.latch.addr d s.latch.width m) :=
  ⟨⟨rfl, quiet_padOk rfl _ _ _, mem8, .inl ⟨rfl, by decide +kernel⟩⟩,
    ⟨rfl, quiet_padOk rfl _ _ _, mem8, .inr ⟨⟨0, rfl⟩, rfl⟩⟩⟩

/-- WriteOperations: T8. -/
theorem test_witness_WriteOperations :
    let s : State := { tickFrom 0x99000008 0x88002C48 0x88002C48 with mem := [] }
    (Instr.wrMW, Space.memory, Width.word) ∈ writeOps ∧ s.cfg.wf = true ∧
    s.tri = s.cfg.triDefault ∧ s.waiting = false ∧
    s.acceptsWrite .memory (tickAddr s) (tickData s) .word [(0x1000, 0x34), (0x1001, 0x12)] ∧
    s.padsOk 0 (writePads s.cfg) :=
  ⟨by decide, by decide +kernel, by decide +kernel, rfl, .inl ⟨rfl, by decide +kernel⟩,
    quiet_padsOk rfl _ _⟩

/-- SilentBackendIsStuck. -/
theorem test_witness_SilentBackendIsStuck :
    (let s : State := { stateAt .sRdReq with answers := [.silent] }
     s.waiting = false ∧ s.answerNow = .silent ∧ s.host = [] ∧ s.unit = .micro ∧
       s.seq = .sRdReq ∧ s.padOk 0 s.out s.cfg.triDefault) ∧
    (let s : State := { stateAt .sWrCap with answers := [.silent] }
     s.waiting = false ∧ s.answerNow = .silent ∧ s.host = [] ∧ s.unit = .micro ∧
       s.seq = .sWrCap ∧ s.padOk 0 s.out s.tri) :=
  ⟨⟨rfl, rfl, rfl, rfl, rfl, quiet_padOk rfl _ _ _⟩, ⟨rfl, rfl, rfl, rfl, rfl, quiet_padOk rfl _ _ _⟩⟩

/-- ReferenceBackendReads, ReferenceBackendWrites, MixedSizesAgree: at the top of the space. -/
theorem test_witness_backend :
    (0xFFFFE : Addr).getLsbD 0 = false ∧ mem8.wf = true ∧
    (∀ v, ((0xFFFFE : Addr).toNat, v) ∉ mem8) ∧
    (0xFFFFF : Addr).toNat = (0xFFFFE : Addr).toNat + 1 ∧
    mem8.write 0xFFFFE 0xBEEF .word = some (mem8 ++ [(0xFFFFE, 0xEF), (0xFFFFF, 0xBE)]) :=
  ⟨by decide, by decide +kernel, by simp [mem8], by decide, by decide +kernel⟩

/-- OnlyWritesChangeStores, OneRequestPerCycle, HistoryGivesPads, HostRegistersReadOnly,
EncodeDecode: operations that answer a next state, for each clause. -/
theorem test_witness_exec_answers :
    (∃ t, exec .rdMW (tickFrom 0x7C99000FFE 0x18000000 0) = .next t) ∧
    (∃ t, exec .wrMW (tickFrom 0x99000008 0x88002C48 0x88002C48) = .next t) ∧
    (∃ t, exec .wrIoW (tickFrom 0x91001FC0 0x408000AA54 0x408000AA54) = .next t) ∧
    (∃ t, exec .sWrCap (stateAt .sWrCap) = .next t) ∧
    (∃ t, exec .sWrCap { stateAt .sWrCap with latch := ⟨0, .write, .io, .word⟩ } = .next t) ∧
    decode .dw 0x2C = .ok .rdMW := by
  have go : ∀ {o : Host.Outcome State Fault Refusal}, nextIs o (fun _ => true) = true →
      ∃ t, o = .next t := fun h => let ⟨t, ht, _⟩ := next_of_check h; ⟨t, ht⟩
  exact ⟨go (by decide +kernel), go (by decide +kernel), go (by decide +kernel),
    go (by decide +kernel), go (by decide +kernel), rfl⟩

/-- TickCosts: a completed tick of each of its three kinds. -/
theorem test_witness_TickCosts :
    (∃ t, exec (.idle 0) (tickFrom 0 0 0) = .next t ∧ (t.seq == .sIdle) = true) ∧
    (∃ t, exec .rdMW (tickFrom 0x7C99000FFE 0x18000000 0) = .next t ∧ (t.seq == .sIdle) = true) ∧
    (∃ t, exec .wrMW (tickFrom 0x99000008 0x88002C48 0x88002C48) = .next t ∧
      (t.seq == .sIdle) = true) :=
  ⟨next_of_check (by decide +kernel), next_of_check (by decide +kernel),
    next_of_check (by decide +kernel)⟩

/-- SuccessorsOfSeq, TriWrittenOnlyByFourStates, StepKeepsInvariant: a SEQ action that completes. -/
theorem test_witness_seq_step :
    Seq.sAHigh ∉ [Seq.sRs1, .sRdReq, .sRdLow, .sRdRel] ∧
    (∃ t, exec Seq.sAHigh.instr (stateAt .sAHigh) = .next t ∧ (t.seq == .sRdReq) = true) ∧
    MachineInv (stateAt .sAHigh) ∧ (∃ t, step (stateAt .sAHigh) = .next t ∧ (t.seq == .sRdReq) = true) :=
  ⟨by decide, next_of_check (by decide +kernel), test_witness_MachineInv _ (by decide),
    next_of_check (by decide +kernel)⟩

/-- HaltedStatesAbsorb, StopHasNoEffectInsideCycle. -/
theorem test_witness_halted :
    (stateAt .sStopped).host = [] ∧ (stateAt .sStopped).seq = .sStopped ∧
      (stateAt .sErr).host = [] ∧ (stateAt .sErr).seq = .sErr ∧ Instr.sALow ≠ .sIdle := by
  exact ⟨rfl, rfl, rfl, rfl, by decide⟩

/-- AdapterFailureAborts, LateAdapterFailureKeepsEarlierWrites, ContentionIsFault. -/
theorem test_witness_premises :
    (∃ p, firstPad .sRdLow { stateAt .sRdLow with env := [⟨true, 0, 0⟩] } = some p ∧
      (State.envAt { stateAt .sRdLow with env := [⟨true, 0, 0⟩] } 0).fails = true) ∧
    (let s : State := { stateAt .sALow with env := [.quiet, ⟨true, 0, 0⟩] }
     s.padOk 0 s.cfg.clkLow s.tri ∧ (s.envAt 1).fails = true) ∧
    (let s : State := { stateAt .sRdLow with env := [⟨false, 0, 0x8000⟩] }
     ∃ p, firstPad .sRdLow s = some p ∧ (s.envAt 0).fails = false ∧
       (s.envAt 0).contends p.1 p.2 = true) := by
  refine ⟨⟨_, rfl, rfl⟩, ⟨⟨rfl, rfl⟩, rfl⟩, ⟨_, rfl, rfl, by decide +kernel⟩⟩

/-- StepRunsDecoded: each of its cases. -/
theorem test_witness_StepRunsDecoded :
    (stateAt .sIdle).host = [] ∧ (stateAt .sIdle).unit = .micro ∧
    decode (fetch (stateAt .sIdle)).1 (fetch (stateAt .sIdle)).2 = .ok .sIdle ∧
    (tickFrom 0 0 0).unit = .tick ∧ (tickFrom 0 0 0).stopTest = false ∧
    { tickFrom 0 0 0 with seq := .sALow }.seq ≠ .sIdle ∧
    { tickFrom 0 0 0 with stopReq := true }.stopTest = true := by
  refine ⟨rfl, rfl, rfl, rfl, rfl, by decide, rfl⟩

/-- HostWrites: a run in progress, a run that ended, no run. -/
theorem test_witness_HostWrites :
    (stateAt .sALow).seq.inRun = true ∧ (stateAt .sRs1).seq.inRun = true ∧
    (stateAt .sStopped).seq = .sStopped ∧ (stateAt .sErr).seq = .sErr ∧ (stateAt .sErr).seq ≠ .sOff ∧
    State.reset.seq = .sOff ∧ (∃ n, HostAct.writeTickLimit none = .writeTickLimit n) :=
  ⟨rfl, rfl, rfl, rfl, by decide, rfl, none, rfl⟩

/-- InvariantGivesPadInvariants, ResetPinHighOnlyUnderReset, DataLinesOwnedOnlyInRead: their clauses
at the values that make them true and false. -/
theorem test_witness_invariant_clauses :
    (stateAt .sRdHigh).tri ≠ (stateAt .sRdHigh).cfg.triDefault ∧
    (stateAt .sRdHigh).out &&& (stateAt .sRdHigh).cfg.data16 ≠ 0 ∧
    (stateAt .sRdHigh).pinOut ((stateAt .sRdHigh).cfg.pins.pin (.ad 15)) = some true ∧
    (stateAt .sRdLow).pinOut ((stateAt .sRdLow).cfg.pins.pin (.ad 15)) = none ∧
    (stateAt .sRdHigh).pinOut ((stateAt .sRdHigh).cfg.pins.pin (.ad 16)) = none ∧
    cfg.lvl (stateAt .sRs5A).out .reset = true ∧ cfg.lvl (stateAt .sRs5L).out .reset = false := by
  decide +kernel

/-- InvariantGivesPadInvariants: S_ERR after a ContractViolation; and S_ERR after the Drive of S_RD_HIGH
failed, with AH set, from which a step is taken; an S_IDLE step. DataLinesOwnedOnlyInRead: the latter. -/
theorem test_witness_invariant_steps :
    MachineInv { stateAt .sErr with
      err := .contractViolation, errInfo := .value 65536, out := cfg.clkHigh, tri := cfg.triDefault } ∧
    (let s : State := { stateAt .sErr with
       err := .adapterIo, errInfo := .none, out := cfg.clkLow ||| cfg.dataMask 0xFFFF,
       tri := cfg.triRead }
     s.out &&& s.cfg.ah = s.cfg.ah ∧ step s = .next s ∧ s.seq ∉ [.sOff, .sRs1, .sRs2, .sRs3]) ∧
    ∃ t, step (stateAt .sIdle) = .next t ∧ (t.seq == .sILow) = true := by
  refine ⟨⟨fun h => absurd rfl h, fun _ => ⟨.sIdle, by simp, rfl⟩, fun _ _ => ⟨rfl, rfl⟩,
      by simp [stateAt], ⟨65536, rfl, by decide⟩, fun _ => by decide +kernel,
      by simp [progressAt, stateAt, handover, Seq.status, cfg, refConfig],
      fun _ => ⟨rfl, rfl, rfl⟩, trivial, (by decide +kernel : mem8.wf = true), rfl,
      by simp [stateAt, handover, State.reset]⟩, ⟨by decide +kernel, rfl, by decide⟩,
    next_of_check (by decide +kernel)⟩

/-- LegalPadValues: HOLD and an unnamed line held low, in a state that meets the invariant. -/
theorem test_witness_LegalPadValues :
    let s : State := { stateAt .sIdle with cfg := cfgHold, tri := cfgHold.triDefault }
    s.tri ≠ BitVec.allOnes 160 ∧ .hold ∈ s.cfg.alwaysDriven ∧ .other (.of 17) ∈ s.cfg.alwaysDriven ∧
    .hold ∉ s.cfg.alwaysHigh ∧ .other (.of 17) ∉ s.cfg.alwaysHigh ∧
    s.pinOut (.of 31) = some false ∧ s.pinOut (.of 17) = some false ∧ MachineInv s := by
  refine ⟨by decide +kernel, by decide, by decide, by decide, by decide, by decide +kernel,
    by decide +kernel, ?_⟩
  exact ⟨fun _ => rfl, (fun h => nomatch h), (fun h => nomatch h),
    by simp [stateAt], rfl, fun _ => by decide +kernel,
    ⟨rfl, rfl⟩, fun _ => ⟨rfl, rfl, rfl⟩, trivial, (by decide +kernel : mem8.wf = true), rfl,
    by simp [stateAt, handover, State.reset]⟩

/-- DecodersReadTheirRoles; CodecRoundTrips with distinct pins and with AD0 on AD15's pin. -/
theorem test_witness_codec :
    (15 : Fin 20).val < 16 ∧ (0x8000 ||| 1 : Mask) &&& cfg.ad20 = 0x8000 &&& cfg.ad20 ∧
    (∀ n k : Fin 20, cfg.pins.pin (.ad n) = cfg.pins.pin (.ad k) → n = k) ∧
    (let c : Config := { cfg with pins := { refPins with ad := refPins.ad.set 0 (.of 39) } }
     (0 : Fin 20) ≠ 15 ∧ c.pins.pin (.ad 0) = c.pins.pin (.ad 15)) := by decide +kernel

/-- AdapterCallsRealiseDrive: the Drive of S_RD_LOW enables data pins after the outputs are written, that
of S_RD_REL releases them before. -/
theorem test_witness_AdapterCallsRealiseDrive :
    driveCalls .sRdLow TD 0x100205700 TR = [.writeOutputs 0x100205700] ++ [.setTriState TR] ∧
    TD.getLsbD 8 = true ∧ TR.getLsbD 8 = false ∧
    driveCalls .sRdReq TD 0x100240000 TD = [.setTriState TD] ∧
    driveCalls .sRdRel TR 0x100240000 TD = [.setTriState TD, .writeOutputs 0x100240000] ∧
    TR &&& ~~~ TD = 0 ∧ TD.getLsbD 8 = true ∧ TR.getLsbD 8 = false := by decide +kernel

end Sys2Proof.Tests
end

section
/-! What the action of a SEQ value can do, said once: an inversion lemma for the 24 rows of format SQ. -/

namespace Sys2Proof.Machine

/-- What follows the one Drive of a state whose action is one Drive; none for the other states. -/
def afterEdge (s : State) : Seq → Option State
  | .sRs3 => some { s with seq := .sRs4A }
  | .sRs4A => some { s with rcnt := 0, seq := .sRs4L }
  | .sRs4L => some { s with seq := .sRs4H }
  | .sRs4H => some { s with
      rcnt := s.rcnt + 1, seq := if s.cfg.resetCycles ≤ s.rcnt + 1 then .sRs5A else .sRs4L }
  | .sRs5A => some { s with seq := .sRs5L }
  | .sRs5L => some { s with seq := .sRs5H }
  | .sRs5H => some { s with seq := .sIdle }
  | .sILow => some { s with seq := .sIHigh }
  | .sIHigh => some { s with seq := .sIdle }
  | .sAHigh => some { s with seq := transferEntry s.latch.dir }
  | .sRdLow => some { s with seq := .sRdHigh }
  | .sRdHigh => some { s with seq := .sRdRel }
  | .sRdRel => some { traceTransfer s with seq := .sIdle }
  | .sWrLow => some { s with seq := .sWrHigh }
  | .sWrHigh => some { traceTransfer s with seq := .sIdle }
  | _ => none

/-- The state after a Drive and a Sample of the same action. -/
def State.droveSampled (s : State) (out tri : Mask) : State :=
  ((s.tookEnv.padDrive out tri).tookEnv.padSample (s.tookEnv.padDrive out tri).sampleNow)

/-- The state after `tickOpen` (43 R113 b, c). -/
def State.opened (s : State) : State :=
  { s.droveSampled s.cfg.clkHigh s.tri with
    s1 := (s.tookEnv.padDrive s.cfg.clkHigh s.tri).sampleNow, ticks := s.ticks + 1 }

/-- The state after S_IDLE in an active tick (43 R113 d, e). -/
def State.latched (s : State) : State :=
  { s.opened with
    latch := { s.latch with addr := s.cfg.decodeAddress s.opened.s1 }, seq := .sALow }

/-- The state after `resample` (43 R117 a, b). -/
def State.resampled (s : State) : State :=
  { s.droveSampled s.cfg.clkLow s.tri with
    s2 := (s.tookEnv.padDrive s.cfg.clkLow s.tri).sampleNow }

/-- The state after S_RD_REQ's Drive and an answer `v` (44 R131 a, b). -/
def State.requested (s : State) (v : Nat) : State :=
  { s.tookEnv.padDrive s.out s.cfg.triDefault with
    answers := s.answers.tail
    events := s.events ++ [.drive s.out s.cfg.triDefault] ++
      [.read s.latch.space s.latch.addr s.latch.width v] }

/-- The state after S_WR_CAP's Sample (44 R136 a, b). -/
def State.captured (s : State) : State :=
  { s.tookEnv.padSample s.sampleNow with
    s3 := s.sampleNow, data := s.cfg.decodeData s.sampleNow }

/-- The state after S_WR_CAP's request was completed (44 R136 c). -/
def State.forwarded (s : State) : State :=
  { s.captured with
    answers := s.answers.tail
    events := s.events ++ [.sample s.sampleNow] ++
      [.write s.latch.space s.latch.addr (s.cfg.decodeData s.sampleNow) s.latch.width] }

/-- Everything the action of a SEQ value can answer. The guards are those on the block's registers and on
the samples; what the environment and the backend choose is left free. -/
inductive Acts (s : State) : Seq → State → Prop where
  | waits (hs : s.start = false) : Acts s .sOff s
  | starts (hs : s.start = true) (hc : s.cfg.wf = true) : Acts s .sOff { s with seq := .sRs1 }
  | absorbs {q : Seq} (hq : q = .sStopped ∨ q = .sErr) : Acts s q s
  | fails {q : Seq} {p : Mask × Mask} (hp : firstPad q.instr s = some p) :
      Acts s q (raise .adapterIo .none s.tookEnv)
  | initialisedFails : Acts s .sRs1 (raise .adapterIo .none s.tookEnv.padInit.tookEnv)
  | initialises : Acts s .sRs1 { s.tookEnv.padInit.tookEnv.padDrive 0 s.cfg.triDefault with
      ticks := 0, err := .none, errInfo := .none, rcnt := 0, seq := .sRs2 }
  | powers : Acts s .sRs2
      { s.tookEnv.padPower s.cfg.vlevel s.cfg.vccMask s.cfg.gndMask with seq := .sRs3 }
  | edge {q : Seq} {p : Mask × Mask} {t : State} (hp : firstPad q.instr s = some p)
      (ht : afterEdge (s.tookEnv.padDrive p.1 p.2) q = some t) : Acts s q t
  | halts (hs : s.stopTest = true) : Acts s .sIdle (haltStop s)
  | sampleFails {q : Seq} {p : Mask × Mask} (hq : q = .sIdle ∨ q = .sALow)
      (hp : firstPad q.instr s = some p) :
      Acts s q (raise .adapterIo .none (s.tookEnv.padDrive p.1 p.2).tookEnv)
  | idles (hs : s.stopTest = false) (ha : aleAsserted s.cfg s.opened.s1 = false) :
      Acts s .sIdle { s.opened with seq := .sILow }
  | latches (hs : s.stopTest = false) (ha : aleAsserted s.cfg s.opened.s1 = true) :
      Acts s .sIdle s.latched
  | decodes {dir : Direction} {sp : Space} {w : Width}
      (hd : decodeCycle s.cfg s.resampled.s2 s.latch.addr = .ok (dir, sp, w)) :
      Acts s .sALow { s.resampled with latch := ⟨s.latch.addr, dir, sp, w⟩, seq := .sAHigh }
  | rejects {e : Err} (hd : decodeCycle s.cfg s.resampled.s2 s.latch.addr = .error e) :
      Acts s .sALow (raise e (.dw (assembleDw s.cfg s.resampled.s2 s.latch.addr)) s.resampled)
  | readHangs (hw : s.waiting = false) :
      Acts s .sRdReq (s.tookEnv.padDrive s.out s.cfg.triDefault).hung
  | accepts {v : Nat} (hw : s.waiting = false) : Acts s .sRdReq { s.requested v with
      data := BitVec.ofNat 16 (readValue s.cfg s.latch.width v), seq := .sRdLow }
  | violates {v : Nat} (hw : s.waiting = false) (hv : 65535 < readValue s.cfg s.latch.width v) :
      Acts s .sRdReq (raise .contractViolation (.value (readValue s.cfg s.latch.width v))
        (s.requested v))
  | writeHangs (hw : s.waiting = false) : Acts s .sWrCap s.captured.hung
  | stores {m : Memory} (hw : s.waiting = false)
      (hm : (s.store s.latch.space).write s.latch.addr (s.cfg.decodeData s.sampleNow)
        s.latch.width = some m) :
      Acts s .sWrCap (State.withStore { s.forwarded with seq := .sWrLow } s.latch.space m)
  | forwards (hw : s.waiting = false) : Acts s .sWrCap { s.forwarded with seq := .sWrLow }

/-- An action of which every answer is listed in `Acts`. -/
abbrev Res.ActsAs (r : Res Unit) (s : State) (q : Seq) : Prop :=
  r.Sat (fun _ => Acts s q) (Acts s q)

/-- The rule for a state whose action is one Drive. -/
theorem edge_acts {s t : State} {q : Seq} {out tri : Mask} {g : Unit → State → Res Unit}
    (h : exec q.instr s = .next t)
    (he : exec q.instr s = ((drive out tri s).andThen g).outcome)
    (hp : firstPad q.instr s = some (out, tri))
    (hg : ∀ u, (afterEdge u q).map (Res.goes ()) = some (g () u)) : Acts s q t := by
  have hs : ((drive out tri s).andThen g).ActsAs s q := by
    refine Res.Sat.andThen (P := fun _ u => u = s.tookEnv.padDrive out tri)
      (drive_sat rfl (.fails hp)) fun _ u hu => ?_
    obtain ⟨v, hv, hgu⟩ := Option.map_eq_some_iff.mp (hg u)
    subst hu
    rw [← hgu]
    exact .edge hp hv
  exact hs.outcome (he ▸ h)

theorem sRs1_actsAs (s : State) :
    ((init s).andThen fun _ t => (drive 0 t.cfg.triDefault t).andThen fun _ u =>
      goto .sRs2 { u with ticks := 0, err := .none, errInfo := .none, rcnt := 0 }).ActsAs s .sRs1 :=
  Res.Sat.andThen (P := fun _ t => t = s.tookEnv.padInit) (padEvent_sat rfl (.fails rfl))
    fun _ _ ht => ht ▸ Res.Sat.andThen
      (P := fun _ u => u = s.tookEnv.padInit.tookEnv.padDrive 0 s.cfg.triDefault)
      (drive_sat rfl .initialisedFails) fun _ _ hu => hu ▸ .initialises

theorem sRs2_actsAs (s : State) :
    ((power s.cfg.vlevel s.cfg.vccMask s.cfg.gndMask s).andThen fun _ t =>
      goto .sRs3 t).ActsAs s .sRs2 :=
  Res.Sat.andThen
    (P := fun _ t => t = s.tookEnv.padPower s.cfg.vlevel s.cfg.vccMask s.cfg.gndMask)
    (padEvent_sat rfl (.fails rfl)) fun _ _ ht => ht ▸ .powers

/-- A Drive and a Sample in one action. -/
theorem drive_sample_sat {s : State} {out tri : Mask} {g : Mask → State → Res Unit}
    {P Q : State → Prop}
    (hd : Q (raise .adapterIo .none s.tookEnv))
    (hs : Q (raise .adapterIo .none (s.tookEnv.padDrive out tri).tookEnv))
    (hg : (g (s.tookEnv.padDrive out tri).sampleNow (s.droveSampled out tri)).Sat
      (fun _ => P) Q) :
    ((drive out tri s).andThen fun _ t => (sample t).andThen g).Sat (fun _ => P) Q :=
  Res.Sat.andThen (P := fun _ t => t = s.tookEnv.padDrive out tri) (drive_sat rfl hd)
    fun _ _ ht => ht ▸ Res.Sat.andThen
      (P := fun v u => v = (s.tookEnv.padDrive out tri).sampleNow ∧ u = s.droveSampled out tri)
      (sample_sat ⟨rfl, rfl⟩ hs) fun _ _ hu => hu.1 ▸ hu.2 ▸ hg

theorem tickOpen_sat {s : State} {Q : State → Prop}
    (hd : Q (raise .adapterIo .none s.tookEnv))
    (hs : Q (raise .adapterIo .none (s.tookEnv.padDrive s.cfg.clkHigh s.tri).tookEnv)) :
    (tickOpen s).Sat (fun _ t => t = s.opened) Q :=
  drive_sample_sat hd hs rfl

theorem resample_sat {s : State} {Q : State → Prop}
    (hd : Q (raise .adapterIo .none s.tookEnv))
    (hs : Q (raise .adapterIo .none (s.tookEnv.padDrive s.cfg.clkLow s.tri).tookEnv)) :
    (resample s).Sat (fun _ t => t = s.resampled) Q :=
  drive_sample_sat hd hs rfl

theorem idleAction_actsAs (s : State) : (idleAction s).ActsAs s .sIdle := by
  unfold idleAction
  cases hs : s.stopTest with
  | true => exact .halts hs
  | false =>
    have hp : firstPad Seq.sIdle.instr s = some (s.cfg.clkHigh, s.tri) := by
      simp [Seq.instr, firstPad, hs]
    refine (tickOpen_sat (.fails hp) (.sampleFails (.inl rfl) hp)).andThen fun _ t ht => ?_
    subst ht
    cases ha : aleAsserted s.opened.cfg s.opened.s1 with
    | true => exact .latches hs ha
    | false => exact .idles hs ha

theorem aLow_actsAs (s : State) : (aLow s).ActsAs s .sALow := by
  refine (resample_sat (.fails rfl) (.sampleFails (.inr rfl) rfl)).andThen fun _ t ht => ?_
  subst ht
  unfold decodeAction
  cases hd : decodeCycle s.resampled.cfg s.resampled.s2 s.resampled.latch.addr with
  | ok k => exact .decodes hd
  | error e => exact .rejects hd

theorem acceptRead_actsAs {s : State} (hw : s.waiting = false) (v : Nat) :
    (acceptRead v (s.requested v)).ActsAs s .sRdReq := by
  rcases Nat.lt_or_ge 65535 (readValue s.cfg s.latch.width v) with hv | hv
  · rw [acceptRead_violates (s := s.requested v) hv]
    exact .violates hw hv
  · rw [acceptRead_fits (s := s.requested v) hv]
    exact .accepts hw

theorem rdReq_actsAs (s : State) : (rdReq s).ActsAs s .sRdReq := by
  unfold rdReq
  cases hw : s.waiting with
  | true => trivial
  | false =>
    have hp : firstPad Seq.sRdReq.instr s = some (s.out, s.cfg.triDefault) := by
      simp [Seq.instr, firstPad, hw]
    refine Res.Sat.andThen (P := fun _ t => t = s.tookEnv.padDrive s.out s.cfg.triDefault)
      (drive_sat rfl (.fails hp)) fun _ t ht => ?_
    subst ht
    rcases memRead_cases s.latch.space s.latch.addr s.latch.width
      (s.tookEnv.padDrive s.out s.cfg.triDefault) with ⟨v, hm⟩ | hm | hm
      <;> simp only [padDrive_latch, tookEnv_latch, hm]
    · exact acceptRead_actsAs hw v
    · trivial
    · exact .readHangs hw

/-- The request of S_WR_CAP, after its capture. -/
theorem forward_actsAs {s : State} (hw : s.waiting = false) :
    ((memWrite s.latch.space s.latch.addr (s.cfg.decodeData s.sampleNow) s.latch.width
      s.captured).andThen fun _ u => goto .sWrLow u).ActsAs s .sWrCap := by
  rcases memWrite_cases s.latch.space s.latch.addr (s.cfg.decodeData s.sampleNow) s.latch.width
    s.captured with ⟨m, hm, h⟩ | h | h | h <;> rw [h]
  · rw [andThen_goes, goto_withStore]
    exact .stores hw (by revert hm; cases s.latch.space <;> exact id)
  · exact .forwards hw
  · trivial
  · exact .writeHangs hw

theorem wrCap_actsAs (s : State) : (wrCap s).ActsAs s .sWrCap := by
  unfold wrCap
  cases hw : s.waiting with
  | true => trivial
  | false =>
    have hp : firstPad Seq.sWrCap.instr s = some (s.out, s.tri) := by
      simp [Seq.instr, firstPad, hw]
    refine Res.Sat.andThen (P := fun v t => v = s.sampleNow ∧ t = s.tookEnv.padSample s.sampleNow)
      (sample_sat ⟨rfl, rfl⟩ (.fails hp)) fun v t ht => ?_
    obtain ⟨rfl, rfl⟩ := ht
    exact forward_actsAs hw

/-- What S_OFF answers (42 R100, 93 U15). -/
theorem exec_sOff_stays {s : State} (h : s.start = false) : exec .sOff s = .next s := by
  simp [exec, execSOff, h]

theorem exec_sOff_true {s : State} (h : s.start = true) : exec .sOff s =
    if s.cfg.wf = true then .next { s with seq := .sRs1 } else .refused .configRefused :=
  if_pos h

/-- The inversion lemma for the rows of format SQ: whatever the action of a SEQ value answers is listed
in `Acts`. -/
theorem acts_of_exec {q : Seq} {s t : State} (h : exec q.instr s = .next t) : Acts s q t := by
  cases q with
  | sOff =>
    change exec .sOff s = .next t at h
    cases hs : s.start with
    | false => rw [exec_sOff_stays hs] at h; cases h; exact .waits hs
    | true =>
      rw [exec_sOff_true hs] at h
      split at h <;> cases h
      exact .starts hs ‹_›
  | sRs1 => exact (sRs1_actsAs s).outcome h
  | sRs2 => exact (sRs2_actsAs s).outcome h
  | sIdle => exact (idleAction_actsAs s).outcome h
  | sALow => exact (aLow_actsAs s).outcome h
  | sRdReq => exact (rdReq_actsAs s).outcome h
  | sWrCap => exact (wrCap_actsAs s).outcome h
  | sStopped => cases h; exact .absorbs (.inl rfl)
  | sErr => cases h; exact .absorbs (.inr rfl)
  | _ => exact edge_acts h rfl rfl fun _ => rfl

end Sys2Proof.Machine
end

section
/-! SEQ and TRI along one action (spec/10_state.md R12, R15). -/

namespace Sys2Proof.Machine

@[simp] theorem latched_seq (s : State) : s.latched.seq = .sALow := rfl
@[simp] theorem captured_seq (s : State) : s.captured.seq = s.seq := rfl

/-- A store's replacement touches no register. -/
@[simp] theorem withStore_seq (s : State) (sp : Space) (m : Memory) :
    (s.withStore sp m).seq = s.seq := by cases sp <;> rfl
@[simp] theorem withStore_out (s : State) (sp : Space) (m : Memory) :
    (s.withStore sp m).out = s.out := by cases sp <;> rfl
@[simp] theorem withStore_tri (s : State) (sp : Space) (m : Memory) :
    (s.withStore sp m).tri = s.tri := by cases sp <;> rfl
@[simp] theorem withStore_cfg (s : State) (sp : Space) (m : Memory) :
    (s.withStore sp m).cfg = s.cfg := by cases sp <;> rfl

/-- The successor after a Drive is the one of R12's row. -/
theorem afterEdge_seq {s t : State} {q : Seq} (h : afterEdge s q = some t) :
    t.seq ∈ q.successors := by
  cases q <;> cases h
  case sRs4H => by_cases hc : s.cfg.resetCycles ≤ s.rcnt + 1 <;> simp [Seq.successors, hc]
  case sAHigh => cases s.latch.dir <;> simp [Seq.successors, transferEntry]
  all_goals simp [Seq.successors]

theorem afterEdge_out {s t : State} {q : Seq} (h : afterEdge s q = some t) : t.out = s.out := by
  cases q <;> cases h <;> rfl

theorem afterEdge_tri {s t : State} {q : Seq} (h : afterEdge s q = some t) : t.tri = s.tri := by
  cases q <;> cases h <;> rfl

theorem afterEdge_cfg {s t : State} {q : Seq} (h : afterEdge s q = some t) : t.cfg = s.cfg := by
  cases q <;> cases h <;> rfl

/-- R12: where an action may end. -/
theorem Acts.seq_cases {s t : State} {q : Seq} (h : Acts s q t) (hq : s.seq = q) :
    t.seq ∈ q.successors ∨ (t.seq = .sErr ∧ t.err = .adapterIo) ∨
      (t.seq = q ∧ t.waiting = true) := by
  cases h with
  | waits => exact .inl (by simp [hq, Seq.successors])
  | absorbs hs => exact .inl (by rcases hs with rfl | rfl <;> simp [hq, Seq.successors])
  | fails | initialisedFails | sampleFails => exact .inr (.inl ⟨rfl, rfl⟩)
  | edge _ ht => exact .inl (afterEdge_seq ht)
  | readHangs | writeHangs => exact .inr (.inr ⟨hq, rfl⟩)
  | stores => exact .inl (by simp [Seq.successors])
  | _ => exact .inl (by simp [Seq.successors])

/-- Settles O45: whatever the action of SEQ answers is one of the cases of `Acts`. -/
theorem successorsOfSeq : Obligations.SuccessorsOfSeq :=
  fun _ _ h => (acts_of_exec h).seq_cases rfl

/-- R15: a state whose action is one Drive, but for two read states, drives under the old TRI. -/
theorem firstPad_tri {s : State} {q : Seq} {p : Mask × Mask}
    (hq : q ∉ [.sRs1, .sRdReq, .sRdLow, .sRdRel]) (hp : firstPad q.instr s = some p) :
    p.2 = s.tri := by
  cases q <;> simp [Seq.instr, firstPad] at hp hq
  case sIdle | sWrCap => exact (hp.2 ▸ rfl : p.2 = s.tri)
  all_goals exact hp ▸ rfl

theorem Acts.tri_eq {s t : State} {q : Seq} (h : Acts s q t)
    (hq : q ∉ [.sRs1, .sRdReq, .sRdLow, .sRdRel]) : t.tri = s.tri := by
  cases h with
  | edge hp ht => exact (afterEdge_tri ht).trans (firstPad_tri hq hp)
  | sampleFails _ hp => exact firstPad_tri hq hp
  | initialisedFails | initialises | readHangs | accepts | violates => simp at hq
  | stores => exact withStore_tri _ _ _
  | _ => rfl

/-- Settles O49: only S_RS1 and three read states drive under another TRI. -/
theorem triWrittenOnlyByFourStates : Obligations.TriWrittenOnlyByFourStates :=
  fun _ _ _ hq h => (acts_of_exec h).tri_eq hq

end Sys2Proof.Machine
end

section
/-! The machine's invariant along one action (spec/10_state.md R35, spec/60_exceptions.md R164). -/

namespace Sys2Proof.Machine

/-- The part of the invariant that a run keeps from S_RS1 on until it is aborted, whatever SEQ and the
pads are. -/
structure Running (s : State) : Prop where
  noErr : s.err = .none
  noInfo : s.errInfo = .none
  cfgOk : s.cfg.wf = true
  rcntLe : s.rcnt ≤ s.cfg.resetCycles
  supply : s.supplyEn = true →
    s.vlevelR = s.cfg.vlevel ∧ s.vccR = s.cfg.vccMask ∧ s.gndR = s.cfg.gndMask
  memOk : s.mem.wf = true
  ioOk : s.io.wf = true

theorem progressAt_rcnt_le {s : State} {q : Seq} (h : progressAt s q) :
    s.rcnt ≤ s.cfg.resetCycles := by
  cases q <;> simp only [progressAt] at h <;> omega

theorem MachineInv.noErr {s : State} (h : MachineInv s) (hq : s.seq ≠ .sErr) : s.err = .none :=
  not_not.mp fun he => hq (h.errSet.mpr he)

theorem MachineInv.running {s : State} (h : MachineInv s) (hq : s.seq ≠ .sErr)
    (hc : s.cfg.wf = true) : Running s where
  noErr := h.noErr hq
  noInfo := by simpa [h.noErr hq, errInfoFits] using h.errFits
  cfgOk := hc
  rcntLe := progressAt_rcnt_le h.progress
  supply := h.supply
  memOk := h.memOk
  ioOk := h.ioOk

/-- The registers that `Running` does not speak of are free. -/
theorem Running.frame {s : State} (h : Running s) {q : Seq} {o z s1 s2 s3 : Mask} {l : Latch}
    {d : Data} {k dr : Nat} {es : List Event} {tr : List TraceRecord} {env : List PadEnv}
    {as : List Answer} {w : Bool} :
    Running { s with
      seq := q, out := o, tri := z, s1 := s1, s2 := s2, s3 := s3, latch := l, data := d, ticks := k,
      draws := dr, events := es, trace := tr, env := env, answers := as, waiting := w } :=
  ⟨h.noErr, h.noInfo, h.cfgOk, h.rcntLe, h.supply, h.memOk, h.ioOk⟩

theorem Running.withRcnt {s : State} (h : Running s) {n : Nat} (hn : n ≤ s.cfg.resetCycles) :
    Running { s with rcnt := n } :=
  ⟨h.noErr, h.noInfo, h.cfgOk, hn, h.supply, h.memOk, h.ioOk⟩

/-- The invariant of a run in progress. -/
theorem Running.inv {s : State} (h : Running s) (hq : s.seq ≠ .sErr)
    (ho : s.out = (padsAt s.cfg s.data s.seq).1) (ht : s.tri = (padsAt s.cfg s.data s.seq).2)
    (hg : progressAt s s.seq) (hl : latchAt s.latch s.seq) (hw : s.waiting = false) :
    MachineInv s where
  pads _ := Prod.ext ho ht
  padsKept he := absurd he hq
  released he := absurd he hq
  errSet := ⟨fun he => absurd he hq, fun he => absurd h.noErr he⟩
  errFits := by simp [h.noErr, h.noInfo, errInfoFits]
  cfgOk _ := h.cfgOk
  progress := hg
  supply := h.supply
  latchOk := hl
  memOk := h.memOk
  ioOk := h.ioOk
  waits h := by simp [hw] at h

/-- The invariant after an abort: the pads stay those of some state of the run (60 R164). -/
theorem Running.abort {s : State} (h : Running s) {e : Err} {info : ErrInfo} {q : Seq}
    (hq : q ≠ .sErr) (ho : s.out = (padsAt s.cfg s.data q).1)
    (ht : s.tri = (padsAt s.cfg s.data q).2) (hw : s.waiting = false)
    (he : e ≠ .none) (hi : errInfoFits e info)
    (hr : e ≠ .adapterIo → s.tri = s.cfg.triDefault ∧
      s.out = if e = .contractViolation then s.cfg.clkHigh else s.cfg.clkLow) :
    MachineInv (raise e info s) where
  pads hs := absurd rfl hs
  padsKept _ := ⟨q, hq, Prod.ext ho ht⟩
  released _ := hr
  errSet := ⟨fun _ => he, fun _ => rfl⟩
  errFits := hi
  cfgOk _ := h.cfgOk
  progress := h.rcntLe
  supply := h.supply
  latchOk := trivial
  memOk := h.memOk
  ioOk := h.ioOk
  waits hs := by simp [hw] at hs

/-- An AdapterIoError needs no more of the pads than that some state has them (R97, R163). -/
theorem Running.adapterIo {s : State} (h : Running s) {q : Seq} (hq : q ≠ .sErr)
    (ho : s.out = (padsAt s.cfg s.data q).1) (ht : s.tri = (padsAt s.cfg s.data q).2)
    (hw : s.waiting = false) : MachineInv (raise .adapterIo .none s.tookEnv) :=
  Running.abort h.frame hq ho ht hw (by decide) rfl fun hne => absurd rfl hne

/-- A state of the invariant whose action has a pad event is in a run and waits for no request. -/
theorem MachineInv.of_firstPad {s : State} {p : Mask × Mask} (h : MachineInv s)
    (hp : firstPad s.seq.instr s = some p) : Running s ∧ s.seq ≠ .sErr ∧ s.waiting = false := by
  have herr : s.seq ≠ .sErr := fun hq => by simp [hq, Seq.instr, firstPad] at hp
  have hoff : s.seq ≠ .sOff := fun hq => by simp [hq, Seq.instr, firstPad] at hp
  refine ⟨h.running herr (h.cfgOk hoff), herr, Bool.eq_false_iff.mpr fun hw => ?_⟩
  rcases h.waits hw with hq | hq <;> simp [hq, Seq.instr, firstPad, hw] at hp

section Edge
variable {s t : State} {q : Seq} {p : Mask × Mask}

/-- The one Drive of an action gives the pads of the successor (R35). -/
theorem edge_pads (hs : s.tri = (padsAt s.cfg s.data q).2)
    (hp : firstPad q.instr s = some p)
    (ht : afterEdge (s.tookEnv.padDrive p.1 p.2) q = some t) :
    t.out = (padsAt t.cfg t.data t.seq).1 ∧ t.tri = (padsAt t.cfg t.data t.seq).2 := by
  cases q <;> cases ht <;> cases hp
  case sRs4H.refl.refl =>
    by_cases hc : s.cfg.resetCycles ≤ s.rcnt + 1
      <;> simp [hc, padsAt, resetHigh, show s.tri = s.cfg.triDefault from hs]
  case sAHigh.refl.refl =>
    cases hd : s.latch.dir
      <;> simp [hd, transferEntry, padsAt, show s.tri = s.cfg.triDefault from hs]
  case sRdLow.refl.refl | sRdRel.refl.refl => exact ⟨rfl, rfl⟩
  all_goals exact ⟨rfl, hs⟩

/-- RCNT counts the reset periods up to RESET_CYCLES (R21). -/
theorem edge_progress (hr : Running s) (hs : progressAt s q)
    (ht : afterEdge (s.tookEnv.padDrive p.1 p.2) q = some t) : progressAt t t.seq := by
  have h4 := resetCycles_ge hr.cfgOk
  cases q <;> cases ht
  case sRs4A.refl => exact ⟨Nat.lt_of_lt_of_le (Nat.zero_lt_succ 3) h4, hs.2⟩
  case sRs4H.refl =>
    obtain ⟨hlt, hen⟩ := hs
    by_cases hc : s.cfg.resetCycles ≤ s.rcnt + 1
    · simpa [hc, progressAt, hen] using Nat.le_antisymm hlt hc
    · simp [hc, progressAt, hen, Nat.not_le.mp hc]
  case sAHigh.refl =>
    dsimp
    cases s.latch.dir <;> exact hs
  all_goals exact hs

/-- S_A_HIGH dispatches by the direction that LATCH holds (43 R121). -/
theorem edge_latch (hs : latchAt s.latch q)
    (ht : afterEdge (s.tookEnv.padDrive p.1 p.2) q = some t) : latchAt t.latch t.seq := by
  cases q <;> cases ht
  case sRs4H.refl => by_cases hc : s.cfg.resetCycles ≤ s.rcnt + 1 <;> simp [hc, latchAt]
  case sAHigh.refl =>
    dsimp
    cases hd : s.latch.dir <;> exact ⟨hs, hd⟩
  all_goals trivial

theorem edge_running (hr : Running s) (hs : progressAt s q)
    (ht : afterEdge (s.tookEnv.padDrive p.1 p.2) q = some t) : Running t := by
  cases q <;> cases ht
  case sRs4A.refl => exact (hr.withRcnt (Nat.zero_le _)).frame
  case sRs4H.refl => exact (hr.withRcnt hs.1).frame
  all_goals exact hr.frame

theorem edge_waiting (ht : afterEdge (s.tookEnv.padDrive p.1 p.2) q = some t) :
    t.waiting = s.waiting := by
  cases q <;> cases ht <;> rfl

/-- No Drive leads to S_ERR. -/
theorem edge_ne_sErr (ht : afterEdge s q = some t) : t.seq ≠ .sErr := by
  intro he
  cases q <;> cases ht
  case sRs4H.refl => by_cases hc : s.cfg.resetCycles ≤ s.rcnt + 1 <;> simp [hc] at he
  case sAHigh.refl => cases hd : s.latch.dir <;> simp [hd, transferEntry] at he
  all_goals cases he

theorem edge_keepsInv (hs : MachineInv s) (hp : firstPad s.seq.instr s = some p)
    (ht : afterEdge (s.tookEnv.padDrive p.1 p.2) s.seq = some t) : MachineInv t := by
  obtain ⟨hr, herr, hw⟩ := hs.of_firstPad hp
  obtain ⟨ho, htri⟩ := edge_pads (congrArg Prod.snd (hs.pads herr)) hp ht
  exact (edge_running hr hs.progress ht).inv (edge_ne_sErr ht) ho htri
    (edge_progress hr hs.progress ht) (edge_latch hs.latchOk ht) ((edge_waiting ht).trans hw)

end Edge

theorem decodeWidth_aligned {b : Bool} {a : Addr} {dir : Direction} {sp : Space} {w : Width}
    (h : decodeWidth b (a.getLsbD 0) = .ok w) : Latch.aligned ⟨a, dir, sp, w⟩ := by
  generalize ha : a.getLsbD 0 = a0 at h
  cases b <;> cases a0 <;> cases h <;> exact ha

/-- The width decode gives an aligned cycle (20 R42). -/
theorem decodeCycle_aligned {c : Config} {m : Mask} {a : Addr} {dir : Direction} {sp : Space}
    {w : Width} (h : decodeCycle c m a = .ok (dir, sp, w)) : Latch.aligned ⟨a, dir, sp, w⟩ := by
  unfold decodeCycle at h
  split at h
  · cases h
  · split at h
    · cases h
    · cases h
      exact decodeWidth_aligned ‹_›

theorem decodeDirection_error {rd wr : Bool} {e : Err} (h : decodeDirection rd wr = .error e) :
    e = .dirNone ∨ e = .dirBoth := by
  cases rd <;> cases wr <;> cases h <;> decide

theorem decodeWidth_error {bhe a0 : Bool} {e : Err} (h : decodeWidth bhe a0 = .error e) :
    e = .width := by
  cases bhe <;> cases a0 <;> cases h
  rfl

/-- The causes that a decode can report (43 R118, R119). -/
theorem decodeCycle_error {c : Config} {m : Mask} {a : Addr} {e : Err}
    (h : decodeCycle c m a = .error e) : e = .dirNone ∨ e = .dirBoth ∨ e = .width := by
  unfold decodeCycle at h
  split at h
  · cases h
    exact (decodeDirection_error ‹_›).imp_right .inl
  · split at h
    · cases h
      exact .inr (.inr (decodeWidth_error ‹_›))
    · cases h

/-- The request of a state goes on without an answer (70 R189). -/
theorem MachineInv.hung {s : State} (h : MachineInv s) (hq : s.seq = .sRdReq ∨ s.seq = .sWrCap) :
    MachineInv s.hung :=
  ⟨h.pads, h.padsKept, h.released, h.errSet, h.errFits, h.cfgOk, h.progress, h.supply, h.latchOk,
    h.memOk, h.ioOk, fun _ => hq⟩

section Keeps
variable {s : State}

/-- What the invariant says of a state in a run, for its value of SEQ. -/
theorem MachineInv.inRun {q : Seq} (hs : MachineInv s) (hq : s.seq = q) (ho : q ≠ .sOff)
    (he : q ≠ .sErr) : Running s ∧ s.out = (padsAt s.cfg s.data q).1 ∧
      s.tri = (padsAt s.cfg s.data q).2 ∧ progressAt s q ∧ latchAt s.latch q := by
  subst hq
  exact ⟨hs.running he (hs.cfgOk ho), congrArg Prod.fst (hs.pads he),
    congrArg Prod.snd (hs.pads he), hs.progress, hs.latchOk⟩

/-- Only a state with a request waits (70 R189). -/
theorem MachineInv.notWaiting {q : Seq} (hs : MachineInv s) (hq : s.seq = q) (h1 : q ≠ .sRdReq)
    (h2 : q ≠ .sWrCap) : s.waiting = false := by
  subst hq
  exact Bool.eq_false_iff.mpr fun hw => (hs.waits hw).elim h1 h2

theorem starts_keepsInv (hs : MachineInv s) (hq : s.seq = .sOff) (hc : s.cfg.wf = true) :
    MachineInv { s with seq := .sRs1 } := by
  have hp := hs.pads
  have hg := hs.progress
  rw [hq] at hp hg
  exact (hs.running (by simp [hq]) hc).frame.inv nofun (congrArg Prod.fst (hp nofun))
    (congrArg Prod.snd (hp nofun)) hg trivial
    (hs.notWaiting hq nofun nofun)

theorem initialises_keepsInv (hs : MachineInv s) (hq : s.seq = .sRs1) :
    MachineInv { s.tookEnv.padInit.tookEnv.padDrive 0 s.cfg.triDefault with
      ticks := 0, err := .none, errInfo := .none, rcnt := 0, seq := .sRs2 } :=
  have ⟨hr, _⟩ := hs.inRun hq nofun nofun
  Running.inv ⟨rfl, rfl, hr.cfgOk, Nat.zero_le _, nofun, hr.memOk, hr.ioOk⟩ nofun rfl rfl ⟨rfl, rfl⟩
    trivial (hs.notWaiting hq nofun nofun)

theorem initialisedFails_keepsInv (hs : MachineInv s) (hq : s.seq = .sRs1) :
    MachineInv (raise .adapterIo .none s.tookEnv.padInit.tookEnv) :=
  have ⟨hr, _⟩ := hs.inRun hq nofun nofun
  Running.adapterIo (s := s.tookEnv.padInit) (q := .sOff)
    ⟨hr.noErr, hr.noInfo, hr.cfgOk, hr.rcntLe, nofun, hr.memOk, hr.ioOk⟩ nofun rfl rfl
    (hs.notWaiting hq nofun nofun)

theorem powers_keepsInv (hs : MachineInv s) (hq : s.seq = .sRs2) :
    MachineInv
      { s.tookEnv.padPower s.cfg.vlevel s.cfg.vccMask s.cfg.gndMask with seq := .sRs3 } :=
  have ⟨hr, ho, ht, hg, _⟩ := hs.inRun hq nofun nofun
  Running.inv ⟨hr.noErr, hr.noInfo, hr.cfgOk, hr.rcntLe, fun _ => ⟨rfl, rfl, rfl⟩, hr.memOk,
    hr.ioOk⟩ nofun ho ht ⟨hg.1, rfl⟩ trivial (hs.notWaiting hq nofun nofun)

theorem halts_keepsInv (hs : MachineInv s) (hq : s.seq = .sIdle) : MachineInv (haltStop s) :=
  have ⟨hr, ho, ht, hg, _⟩ := hs.inRun hq nofun nofun
  Running.inv hr.frame nofun ho ht hg trivial (hs.notWaiting hq nofun nofun)

/-- A Sample that fails after the Drive of its action leaves the Drive's pads (R163). -/
theorem sampleFails_keepsInv (hs : MachineInv s) {p : Mask × Mask}
    (hi : s.seq = .sIdle ∨ s.seq = .sALow) (hp : firstPad s.seq.instr s = some p) :
    MachineInv (raise .adapterIo .none (s.tookEnv.padDrive p.1 p.2).tookEnv) := by
  obtain ⟨hr, -, hw⟩ := hs.of_firstPad hp
  rcases hi with hq | hq <;> obtain ⟨-, -, ht, -⟩ := hs.inRun hq nofun nofun <;> rw [hq] at hp
  · simp [Seq.instr, firstPad] at hp
    obtain ⟨-, rfl⟩ := hp
    exact Running.adapterIo (s := s.tookEnv.padDrive _ _) (q := .sIdle) hr.frame nofun
      rfl ht hw
  · cases hp
    exact Running.adapterIo (s := s.tookEnv.padDrive _ _) (q := .sIHigh) hr.frame nofun
      rfl ht hw

/-- S_IDLE's Drive and Sample lead to the pads of both S_I_LOW and S_A_LOW. -/
theorem opened_keepsInv (hs : MachineInv s) (hq : s.seq = .sIdle) (l : Latch) {q : Seq}
    (hn : q = .sILow ∨ q = .sALow) : MachineInv { s.opened with latch := l, seq := q } := by
  obtain ⟨hr, -, ht, hg, -⟩ := hs.inRun hq nofun nofun
  rcases hn with rfl | rfl <;>
    exact Running.inv hr.frame nofun rfl ht hg trivial (hs.notWaiting hq nofun nofun)

theorem decodes_keepsInv (hs : MachineInv s) (hq : s.seq = .sALow) {l : Latch} (hl : l.aligned) :
    MachineInv { s.resampled with latch := l, seq := .sAHigh } :=
  have ⟨hr, _, ht, hg, _⟩ := hs.inRun hq nofun nofun
  Running.inv hr.frame nofun rfl ht hg hl
    (hs.notWaiting hq nofun nofun)

/-- A DecodeError leaves the clock low and the data lines released (R164). -/
theorem rejects_keepsInv (hs : MachineInv s) (hq : s.seq = .sALow) {e : Err} (d : DecodeWord)
    (he : e = .dirNone ∨ e = .dirBoth ∨ e = .width) :
    MachineInv (raise e (.dw d) s.resampled) := by
  obtain ⟨hr, -, ht, -⟩ := hs.inRun hq nofun nofun
  have hc : e ≠ .none ∧ errInfoFits e (.dw d) ∧ e ≠ .contractViolation := by
    rcases he with rfl | rfl | rfl <;> exact ⟨nofun, ⟨d, rfl⟩, nofun⟩
  obtain ⟨hne, hfit, hcv⟩ := hc
  exact Running.abort (q := .sIHigh) hr.frame nofun rfl ht
    (hs.notWaiting hq nofun nofun) hne hfit fun _ => ⟨ht, (if_neg hcv).symm⟩

theorem readHangs_keepsInv (hs : MachineInv s) (hq : s.seq = .sRdReq) (hw : s.waiting = false) :
    MachineInv (s.tookEnv.padDrive s.out s.cfg.triDefault).hung := by
  obtain ⟨hr, ho, ht, hg, hl⟩ := hs.inRun hq nofun nofun
  refine MachineInv.hung (Running.inv hr.frame ?_ ?_ ?_ ?_ ?_ hw) (.inl hq) <;>
    simp only [padDrive_seq, tookEnv_seq, hq]
  · nofun
  · exact ho
  · rfl
  · exact hg
  · exact hl

theorem accepts_keepsInv (hs : MachineInv s) (hq : s.seq = .sRdReq) (hw : s.waiting = false)
    (v : Nat) (d : Data) : MachineInv { s.requested v with data := d, seq := .sRdLow } :=
  have ⟨hr, ho, _, hg, hl⟩ := hs.inRun hq nofun nofun
  Running.inv hr.frame nofun ho rfl hg hl hw

/-- A ContractViolation leaves the clock high and the data lines released (R164). -/
theorem violates_keepsInv (hs : MachineInv s) (hq : s.seq = .sRdReq) (hw : s.waiting = false)
    {v n : Nat} (hn : 65535 < n) :
    MachineInv (raise .contractViolation (.value n) (s.requested v)) :=
  have ⟨hr, ho, _⟩ := hs.inRun hq nofun nofun
  Running.abort (q := .sRdReq) hr.frame nofun ho rfl hw nofun ⟨n, rfl, hn⟩
    fun _ => ⟨rfl, ho⟩

theorem writeHangs_keepsInv (hs : MachineInv s) (hq : s.seq = .sWrCap) (hw : s.waiting = false) :
    MachineInv s.captured.hung := by
  obtain ⟨hr, ho, ht, hg, hl⟩ := hs.inRun hq nofun nofun
  refine MachineInv.hung (Running.inv hr.frame ?_ ?_ ?_ ?_ ?_ hw) (.inr hq) <;>
    simp only [captured_seq, hq]
  · nofun
  · exact ho
  · exact ht
  · exact hg
  · exact hl

theorem forwards_keepsInv (hs : MachineInv s) (hq : s.seq = .sWrCap) (hw : s.waiting = false) :
    MachineInv { s.forwarded with seq := .sWrLow } :=
  have ⟨hr, ho, ht, hg, hl⟩ := hs.inRun hq nofun nofun
  Running.inv hr.frame nofun ho ht hg hl hw

theorem MachineInv.withStore (h : MachineInv s) {sp : Space} {m : Memory} (hm : m.wf = true) :
    MachineInv (s.withStore sp m) := by
  cases sp
  · exact ⟨h.pads, h.padsKept, h.released, h.errSet, h.errFits, h.cfgOk, h.progress, h.supply,
      h.latchOk, hm, h.ioOk, h.waits⟩
  · exact ⟨h.pads, h.padsKept, h.released, h.errSet, h.errFits, h.cfgOk, h.progress, h.supply,
      h.latchOk, h.memOk, hm, h.waits⟩

theorem MachineInv.store_wf (h : MachineInv s) (sp : Space) : (s.store sp).wf = true := by
  cases sp
  · exact h.memOk
  · exact h.ioOk

end Keeps

/-- Every action keeps the invariant. -/
theorem Acts.keepsInv {s t : State} (h : Acts s s.seq t) (hs : MachineInv s) : MachineInv t := by
  generalize hq : s.seq = q at h
  cases h with
  | waits | absorbs => exact hs
  | starts _ hc => exact starts_keepsInv hs hq hc
  | fails hp =>
    obtain ⟨hr, herr, hw⟩ := hs.of_firstPad (hq ▸ hp)
    exact hr.adapterIo herr (congrArg Prod.fst (hs.pads herr)) (congrArg Prod.snd (hs.pads herr)) hw
  | initialisedFails => exact initialisedFails_keepsInv hs hq
  | initialises => exact initialises_keepsInv hs hq
  | powers => exact powers_keepsInv hs hq
  | edge hp ht => exact edge_keepsInv hs (hq ▸ hp) (hq ▸ ht)
  | halts => exact halts_keepsInv hs hq
  | sampleFails hi hp => exact sampleFails_keepsInv hs (hq ▸ hi) (hq ▸ hp)
  | idles => exact opened_keepsInv hs hq s.latch (.inl rfl)
  | latches => exact opened_keepsInv hs hq s.latched.latch (.inr rfl)
  | decodes hd => exact decodes_keepsInv hs hq (decodeCycle_aligned hd)
  | rejects hd => exact rejects_keepsInv hs hq _ (decodeCycle_error hd)
  | readHangs hw => exact readHangs_keepsInv hs hq hw
  | accepts hw => exact accepts_keepsInv hs hq hw _ _
  | violates hw hv => exact violates_keepsInv hs hq hw hv
  | writeHangs hw => exact writeHangs_keepsInv hs hq hw
  | stores hw hm => exact (forwards_keepsInv hs hq hw).withStore (wf_write (hs.store_wf _) hm)
  | forwards hw => exact forwards_keepsInv hs hq hw

end Sys2Proof.Machine
end

section
/-! A tick is the sequence of its micro steps (spec/10_state.md R13, spec/92_eei_decisions.md D5): the
run of actions behind every step. -/

namespace Sys2Proof.Machine

/-! A run, step by step, of any machine behind the host's interface. -/

section Run
variable {M : Host.Core} {s : M.State}

theorem run_succ {t : M.State} (h : M.step s = .next t) (n : Nat) :
    M.run (n + 1) s = M.run n t := by
  simp only [Host.Core.run, h]

theorem run_fault {r : M.Fault} (h : M.step s = .fault r) (n : Nat) :
    M.run (n + 1) s = .fault r := by
  simp only [Host.Core.run, h]

theorem run_refused {r : M.Refusal} (h : M.step s = .refused r) (n : Nat) :
    M.run (n + 1) s = .refused r := by
  simp only [Host.Core.run, h]

theorem run_one : M.run 1 s = M.step s := by
  cases h : M.step s <;> simp [Host.Core.run, h]

/-- What every step keeps, every run keeps. -/
theorem run_keeps {P : M.State → Prop} (h : ∀ s t, P s → M.step s = .next t → P t) {n : Nat}
    {t : M.State} (hs : P s) (ht : M.run n s = .next t) : P t := by
  induction n generalizing s with
  | zero => cases ht; exact hs
  | succ n ih =>
    cases he : M.step s with
    | next u => exact ih (h s u hs he) (run_succ he n ▸ ht)
    | fault r => rw [run_fault he] at ht; cases ht
    | refused r => rw [run_refused he] at ht; cases ht

end Run

/-- The machine that runs one action of SEQ after another, without units and without a host. -/
def actionCore : Host.Core :=
  { State := State, Fault := Fault, Refusal := Refusal, step := fun s => exec s.seq.instr s,
    reset := State.reset }

/-- At most `N` actions from `s` on answer `o`. -/
def Runs (N : Nat) (s : State) (o : Host.Outcome State Fault Refusal) : Prop :=
  ∃ n, n ≤ N ∧ actionCore.run n s = o

theorem Runs.mono {N M : Nat} {s : State} {o : Host.Outcome State Fault Refusal} (h : Runs N s o)
    (hNM : N ≤ M) : Runs M s o := by
  obtain ⟨n, hn, he⟩ := h
  exact ⟨n, hn.trans hNM, he⟩

theorem runs_one {s : State} {o : Host.Outcome State Fault Refusal} (h : exec s.seq.instr s = o) :
    Runs 1 s o :=
  ⟨1, Nat.le_refl 1, (run_one (M := actionCore)).trans h⟩

/-- One action, then the actions of what follows it. -/
theorem runs_andThen {s : State} {r : Res Unit} {g : Unit → State → Res Unit} {N : Nat}
    {P : State → Prop} (hr : exec s.seq.instr s = r.outcome)
    (hs : r.Sat (fun _ => P) fun _ => True) (hg : ∀ t, P t → Runs N t (g () t).outcome) :
    Runs (N + 1) s (r.andThen g).outcome := by
  cases r with
  | goes a t =>
    obtain ⟨n, hn, h⟩ := hg t hs
    exact ⟨n + 1, Nat.succ_le_succ hn, (run_succ (M := actionCore) hr n).trans h⟩
  | ends t => exact ⟨1, Nat.le_add_left 1 N, (run_one (M := actionCore)).trans hr⟩
  | stops f => exact ⟨1, Nat.le_add_left 1 N, (run_one (M := actionCore)).trans hr⟩

/-- An action that ends in `goto q` goes on in `q`. -/
theorem goto_sat {α : Type} (r : Res α) (q : Seq) (f : State → State) :
    (r.andThen fun _ t => goto q (f t)).Sat (fun _ t => t.seq = q) fun _ => True := by
  cases r with
  | goes a t => exact rfl
  | ends t => trivial
  | stops e => trivial

/-- The actions of a transfer, for the direction that LATCH holds (44 R139). -/
def transferTail : Direction → State → Res Unit
  | .read, s => (rdReq s).andThen fun _ t => (rdLow t).andThen fun _ u =>
      (rdHigh u).andThen fun _ v => rdRel v
  | .write, s => (wrCap s).andThen fun _ t => (wrLow t).andThen fun _ u => wrHigh u

/-- The actions that follow S_IDLE in an active tick. -/
def activeTail (s : State) : Res Unit :=
  (aLow s).andThen fun _ t => (aHigh t).andThen fun _ u => transferTail u.latch.dir u

/-- The actions that follow S_IDLE in an idle tick. -/
def idleTail (s : State) : Res Unit := (iLow s).andThen fun _ t => iHigh t

/-- A whole tick as the sequence of the actions of SEQ. -/
def wholeTick (s : State) : Res Unit :=
  (idleAction s).andThen fun _ t => if t.seq = .sALow then activeTail t else idleTail t

theorem acceptRead_seq (r : Nat) (s : State) :
    (acceptRead r s).Sat (fun _ t => t.seq = .sRdLow) fun _ => True := by
  unfold acceptRead
  split
  · exact rfl
  · trivial

theorem rdReq_seq (s : State) : (rdReq s).Sat (fun _ t => t.seq = .sRdLow) fun _ => True := by
  unfold rdReq
  split
  · trivial
  · exact Res.Sat.andThen (P := fun _ _ => True) (drive_sat trivial trivial) fun _ t _ =>
      Res.Sat.andThen (P := fun _ _ => True)
        (by rcases memRead_cases t.latch.space t.latch.addr t.latch.width t with ⟨v, h⟩ | h | h <;>
              rw [h] <;> trivial)
        fun v u _ => acceptRead_seq v u

theorem wrCap_seq (s : State) : (wrCap s).Sat (fun _ t => t.seq = .sWrLow) fun _ => True := by
  unfold wrCap
  split
  · trivial
  · exact Res.Sat.andThen (P := fun _ _ => True) (sample_sat trivial trivial) fun _ _ _ =>
      goto_sat _ _ id

theorem runs_transferTail {s : State} {d : Direction} (h : s.seq = transferEntry d) :
    Runs 4 s (transferTail d s).outcome := by
  cases d with
  | read =>
    refine runs_andThen (by rw [h]; rfl) (rdReq_seq s) fun t ht => ?_
    refine runs_andThen (by rw [ht]; rfl) (goto_sat _ .sRdHigh id) fun u hu => ?_
    refine runs_andThen (by rw [hu]; rfl) (goto_sat _ .sRdRel id) fun v hv => ?_
    exact runs_one (by rw [hv]; rfl)
  | write =>
    refine runs_andThen (by rw [h]; rfl) (wrCap_seq s) fun t ht => ?_
    refine runs_andThen (by rw [ht]; rfl) (goto_sat _ .sWrHigh id) fun u hu => ?_
    exact (runs_one (by rw [hu]; rfl)).mono (by decide)

theorem aHigh_sat (s : State) :
    (aHigh s).Sat (fun _ t => t.latch = s.latch ∧ t.seq = transferEntry t.latch.dir)
      fun _ => True :=
  Res.Sat.andThen (P := fun _ t => t.latch = s.latch) (drive_sat rfl trivial) fun _ _ h => ⟨h, rfl⟩

/-- Two continuations that agree on what an action may go on with. -/
theorem Res.Sat.andThen_congr {r : Res Unit} {g g' : Unit → State → Res Unit} {P : State → Prop}
    (hr : r.Sat (fun _ => P) fun _ => True) (h : ∀ t, P t → g () t = g' () t) :
    r.andThen g = r.andThen g' := by
  cases r with
  | goes a t => exact h t hr
  | ends t => rfl
  | stops f => rfl

theorem tickOpen_congr {s : State} {g g' : Unit → State → Res Unit}
    (h : g () s.opened = g' () s.opened) : (tickOpen s).andThen g = (tickOpen s).andThen g' :=
  (tickOpen_sat trivial trivial).andThen_congr fun _ ht => ht ▸ h

theorem resample_congr {s : State} {g g' : Unit → State → Res Unit}
    (h : g () s.resampled = g' () s.resampled) : (resample s).andThen g = (resample s).andThen g' :=
  (resample_sat trivial trivial).andThen_congr fun _ ht => ht ▸ h

/-- S_A_HIGH keeps LATCH, so the transfer that follows is that of the direction before it. -/
theorem aHigh_transferTail (s : State) :
    ((aHigh s).andThen fun _ t => transferTail s.latch.dir t) =
      (aHigh s).andThen fun _ t => transferTail t.latch.dir t :=
  (aHigh_sat s).andThen_congr fun _ ht => by rw [ht.1]

theorem aLow_seq (s : State) : (aLow s).Sat (fun _ t => t.seq = .sAHigh) fun _ => True := by
  refine Res.Sat.andThen (P := fun _ _ => True) ?_ fun _ t _ => ?_
  · exact drive_sample_sat trivial trivial trivial
  · unfold decodeAction
    split
    · exact rfl
    · trivial

theorem runs_activeTail {s : State} (h : s.seq = .sALow) : Runs 6 s (activeTail s).outcome := by
  refine runs_andThen (by rw [h]; rfl) (aLow_seq s) fun t ht => ?_
  refine runs_andThen (by rw [ht]; rfl) (aHigh_sat t) fun u hu => ?_
  exact runs_transferTail hu.2

theorem runs_idleTail {s : State} (h : s.seq = .sILow) : Runs 6 s (idleTail s).outcome := by
  refine runs_andThen (N := 5) (by rw [h]; rfl) (goto_sat _ .sIHigh id) fun t ht => ?_
  exact (runs_one (by rw [ht]; rfl)).mono (by decide)

theorem idleAction_seq {s : State} (h : s.stopTest = false) :
    (idleAction s).Sat (fun _ t => t.seq = .sALow ∨ t.seq = .sILow) fun _ => True := by
  unfold idleAction
  rw [h]
  refine (tickOpen_sat trivial trivial).andThen fun _ t _ => ?_
  split
  · exact .inl rfl
  · exact .inr rfl

/-- A whole tick is at most seven actions. -/
theorem runs_wholeTick {s : State} (hq : s.seq = .sIdle) (h : s.stopTest = false) :
    Runs 7 s (wholeTick s).outcome := by
  refine runs_andThen (by rw [hq]; rfl) (idleAction_seq h) fun t ht => ?_
  rcases ht with ht | ht
  · simp only [ht, if_true]
    exact runs_activeTail ht
  · simp only [ht, reduceCtorEq, if_false]
    exact runs_idleTail ht

/-! The row that the samples select runs that same tick. -/

/-- The transfer operation of a direction, space and width (30 R68). -/
def transferInstr : Direction → Space → Width → Instr
  | .read, .memory, .word => .rdMW
  | .read, .memory, .upperByte => .rdMUB
  | .read, .memory, .lowerByte => .rdMLB
  | .read, .io, .word => .rdIoW
  | .read, .io, .upperByte => .rdIoUB
  | .read, .io, .lowerByte => .rdIoLB
  | .write, .memory, .word => .wrMW
  | .write, .memory, .upperByte => .wrMUB
  | .write, .memory, .lowerByte => .wrMLB
  | .write, .io, .word => .wrIoW
  | .write, .io, .upperByte => .wrIoUB
  | .write, .io, .lowerByte => .wrIoLB

theorem exec_transferInstr (dir : Direction) (sp : Space) (w : Width) (s : State) :
    exec (transferInstr dir sp w) s =
      ((cycleOpen ⟨dir, sp, w⟩ s).andThen fun _ t => transferTail dir t).outcome := by
  cases dir <;> cases sp <;> cases w <;> rfl

theorem exec_of_errorCause {i : Instr} {e : Err} {d : DecodeWord}
    (h : errorCause i = some (e, d)) (s : State) : exec i s = errorTick e d s := by
  cases i <;> simp only [errorCause, reduceCtorEq, Option.some.injEq, Prod.mk.injEq] at h
  all_goals
    obtain ⟨rfl, rfl⟩ := h
    rfl

/-- The sequential decode (R126) on the levels alone, with MIO already compared with its memory level. -/
def decodeBits (rd wr mem bhe a0 : Bool) : Except Err (Direction × Space × Width) :=
  match decodeDirection rd wr, decodeWidth bhe a0 with
  | .error e, _ => .error e
  | .ok _, .error e => .error e
  | .ok dir, .ok w => .ok (dir, if mem then .memory else .io, w)

theorem decodeCycle_eq_decodeBits (c : Config) (m : Mask) (a : Addr) :
    decodeCycle c m a = decodeBits (c.lvl m .rd) (c.lvl m .wr) (c.lvl m .mio == c.mioMemoryLevel)
      (c.lvl m .bhe) (a.getLsbD 0) := by
  unfold decodeCycle decodeBits
  cases decodeDirection (c.lvl m .rd) (c.lvl m .wr) <;>
    cases decodeWidth (c.lvl m .bhe) (a.getLsbD 0) <;> simp [decodeSpace]

/-- The row `i` is the one for a cycle with decode word `d` whose sequential decode gave `r`. -/
def rowFits (d : DecodeWord) (r : Except Err (Direction × Space × Width)) (i : Instr) : Bool :=
  match r with
  | .error e => decide (errorCause i = some (e, d))
  | .ok (dir, sp, w) => decide (i = transferInstr dir sp w)

/-- R68, R126, D4: the 32 decode words with ALE set, one by one. -/
theorem decodeDw_rowFits : ∀ rd wr mem bhe a0 : Bool,
    (decodeDw (1#1 ++ levelBit rd ++ levelBit wr ++ levelBit mem ++ levelBit bhe ++
      levelBit a0)).toOption.all (rowFits (1#1 ++ levelBit rd ++ levelBit wr ++ levelBit mem ++
        levelBit bhe ++ levelBit a0) (decodeBits rd wr mem bhe a0)) = true := by
  decide +kernel

/-- The row that the decode word selects, read off the sequential decode. -/
theorem rowFits_of_decodeDw {c : Config} {m : Mask} {a : Addr} {i : Instr}
    (h : decodeDw (assembleDw c m a) = .ok i) :
    rowFits (assembleDw c m a) (decodeCycle c m a) i = true := by
  have hb := decodeDw_rowFits (c.lvl m .rd) (c.lvl m .wr) (c.lvl m .mio == c.mioMemoryLevel)
    (c.lvl m .bhe) (a.getLsbD 0)
  rw [← decodeCycle_eq_decodeBits] at hb
  change (decodeDw (assembleDw c m a)).toOption.all (rowFits (assembleDw c m a) _) = true at hb
  rwa [h] at hb

theorem opened_s1 (s : State) : s.opened.s1 = s.nextS1 := by
  simp [State.opened, State.nextS1, State.sampleNow]

theorem wholeTick_active {s : State} (h : s.stopTest = false)
    (ha : aleAsserted s.cfg s.nextS1 = true) :
    wholeTick s = (tickOpen s).andThen fun _ _ => activeTail s.latched := by
  unfold wholeTick idleAction
  rw [h, if_neg Bool.false_ne_true, andThen_assoc]
  refine tickOpen_congr ?_
  have ho : aleAsserted s.opened.cfg s.opened.s1 = true := opened_s1 s ▸ ha
  rw [ho]
  rfl

theorem wholeTick_idle {s : State} (h : s.stopTest = false)
    (ha : aleAsserted s.cfg s.nextS1 = false) :
    wholeTick s = (tickOpen s).andThen fun _ t => idleTail { t with seq := .sILow } := by
  unfold wholeTick idleAction
  rw [h, if_neg Bool.false_ne_true, andThen_assoc]
  refine tickOpen_congr ?_
  have ho : aleAsserted s.opened.cfg s.opened.s1 = false := opened_s1 s ▸ ha
  rw [ho]
  rfl

/-- The sample and the address that an active tick decodes (30 R64). -/
theorem latched_resampled_s2 (s : State) : s.latched.resampled.s2 = s.nextS2 := by
  simp [State.resampled, State.latched, State.opened, State.droveSampled, State.nextS2,
    State.sampleNow, State.envAt]

theorem latched_addr (s : State) : s.latched.latch.addr = s.cfg.decodeAddress s.nextS1 := by
  rw [← opened_s1]; rfl

/-- The end of a decode whose result and decode word are known. -/
def decodeEnd (r : Except Err (Direction × Space × Width)) (d : DecodeWord) (s : State) :
    Res Unit :=
  match r with
  | .ok (dir, sp, w) => latchKind ⟨dir, sp, w⟩ s
  | .error e => .ends (raise e (.dw d) s)

theorem decodeAction_eq (s : State) : decodeAction s =
    decodeEnd (decodeCycle s.cfg s.s2 s.latch.addr) (assembleDw s.cfg s.s2 s.latch.addr) s := rfl

/-- An active tick of a row that fits its decode word. -/
theorem exec_of_rowFits {s : State} {i : Instr}
    (hi : rowFits (assembleDw s.cfg s.nextS2 (s.cfg.decodeAddress s.nextS1))
      (decodeCycle s.cfg s.nextS2 (s.cfg.decodeAddress s.nextS1)) i = true) :
    exec i s = ((tickOpen s).andThen fun _ _ => activeTail s.latched).outcome := by
  have hdec := decodeAction_eq s.latched.resampled
  rw [latched_resampled_s2, show s.latched.resampled.latch = s.latched.latch from rfl, latched_addr,
    show s.latched.resampled.cfg = s.cfg from rfl] at hdec
  unfold rowFits at hi
  cases hd : decodeCycle s.cfg s.nextS2 (s.cfg.decodeAddress s.nextS1) with
  | error e =>
    rw [hd] at hi hdec
    rw [exec_of_errorCause (of_decide_eq_true hi)]
    refine congrArg Res.outcome (tickOpen_congr ?_)
    change ((resample s.latched).andThen _) = activeTail s.latched
    unfold activeTail aLow
    rw [andThen_assoc]
    refine resample_congr ?_
    rw [hdec]
    rfl
  | ok k =>
    obtain ⟨dir, sp, w⟩ := k
    rw [hd] at hi hdec
    rw [of_decide_eq_true hi, exec_transferInstr]
    refine congrArg Res.outcome ?_
    unfold cycleOpen
    rw [andThen_assoc]
    refine tickOpen_congr ?_
    change (((resample s.latched).andThen _).andThen _) = activeTail s.latched
    unfold activeTail aLow
    rw [andThen_assoc, andThen_assoc]
    refine resample_congr ?_
    rw [hdec]
    exact aHigh_transferTail { s.latched.resampled with
      latch := { s.latched.resampled.latch with dir := dir, space := sp, width := w }
      seq := .sAHigh }

/-- R13, D5: the operation that the samples select is the tick. -/
theorem exec_eq_wholeTick {s : State} {i : Instr} (h : s.stopTest = false)
    (hi : decodeDw s.nextDw = .ok i) : exec i s = (wholeTick s).outcome := by
  unfold State.nextDw at hi
  cases ha : aleAsserted s.cfg s.nextS1 with
  | true =>
    rw [ha, if_pos rfl] at hi
    rw [wholeTick_active h ha]
    exact exec_of_rowFits (rowFits_of_decodeDw hi)
  | false =>
    rw [ha, if_neg Bool.false_ne_true] at hi
    cases hi
    rw [wholeTick_idle h ha]
    rfl

end Sys2Proof.Machine
end

section
/-! The step and the host's turn (spec/10_state.md R13, R25, R33): what a step runs, what the host may
write, and the invariant along whole steps. -/

namespace Sys2Proof.Machine

/-! ## What a step fetches -/

theorem runFetched_of_decode {s : State} {i : Instr}
    (h : decode (fetch s).1 (fetch s).2 = .ok i) : runFetched s = exec i s := by
  simp [runFetched, h]

/-- Outside a tick that goes on, the fetched word is SEQ's. -/
theorem runFetched_seq {s : State}
    (h : ¬ (s.unit = .tick ∧ s.seq = .sIdle ∧ s.stopTest = false)) :
    runFetched s = exec s.seq.instr s :=
  runFetched_of_decode (by rw [fetch, if_neg h]; exact decode_sqWord s.seq)

/-- At S_IDLE of a tick that goes on, the fetched word is the decode word, which selects a row. -/
theorem runFetched_dw {s : State} (hu : s.unit = .tick) (hq : s.seq = .sIdle)
    (hs : s.stopTest = false) : ∃ i, decodeDw s.nextDw = .ok i ∧ runFetched s = exec i s := by
  obtain ⟨i, hi⟩ := decodeDw_total s.nextDw
  refine ⟨i, hi, runFetched_of_decode ?_⟩
  rw [fetch, if_pos ⟨hu, hq, hs⟩, decode_dwWord, hi]

/-- Every fetched operation is a run of at most seven actions (R13, D5). -/
theorem runs_runFetched (s : State) : Runs 7 s (runFetched s) := by
  by_cases h : s.unit = .tick ∧ s.seq = .sIdle ∧ s.stopTest = false
  · obtain ⟨hu, hq, hs⟩ := h
    obtain ⟨i, hi, hr⟩ := runFetched_dw hu hq hs
    rw [hr, exec_eq_wholeTick hs hi]
    exact runs_wholeTick hq hs
  · exact (runs_one (runFetched_seq h).symm).mono (by decide)

/-- Settles O33, by what `fetch` gives in each of the two units. -/
theorem stepRunsDecoded : Obligations.StepRunsDecoded := by
  intro s hs
  rw [step_of_no_host hs]
  refine ⟨fun _ hi => runFetched_of_decode hi, runFetched_micro, ?_, ?_, runFetched_dw⟩
  · exact fun _ hq => runFetched_seq fun h => hq h.2.1
  · exact fun _ hq ht => (runFetched_seq fun h => by simp [ht] at h).trans (by rw [hq]; rfl)

/-! ## The host's turn -/

theorem step_of_refused {s : State} (h : hostTurn s = none) :
    step s = .refused .hostWriteRefused := by
  simp [step, h]

/-- A run is over or has not begun. -/
theorem not_inRun {q : Seq} (h : q = .sOff ∨ q = .sStopped ∨ q = .sErr) : q.inRun = false := by
  rcases h with rfl | rfl | rfl <;> rfl

/-- Settles O35, by the cases of `hostAct`. -/
theorem hostWrites : Obligations.HostWrites := by
  intro s rest
  refine ⟨fun _ => rfl, ?_, ?_, ?_, ?_⟩
  · rintro hr a (⟨b, rfl⟩ | ⟨n, rfl⟩ | ⟨b, rfl⟩) <;>
      exact step_of_refused (by simp [hostTurn, hostAct, hr])
  · intro hq b n
    simp [hostTurn, hostAct, not_inRun hq]
  · intro c hq
    simp [hostTurn, hostAct, hq]
  · intro c hq
    exact step_of_refused (by simp [hostTurn, hostAct, hq])

/-- Settles O36: the block's reset is accepted in every state. -/
theorem blockResetPowersOn : Obligations.BlockResetPowersOn :=
  fun s rest => ⟨blockReset { s with host := rest }, by
    simp [hostTurn, hostAct, blockReset, State.reset]⟩

/-- Settles O37: the fields of the reset state, and every bit of its TRI. -/
theorem powerOnValues : Obligations.PowerOnValues := by
  refine ⟨rfl, rfl, fun p => ?_, rfl, rfl, rfl, rfl, rfl, rfl, rfl, rfl, rfl, rfl, rfl⟩
  rw [show State.reset.tri = BitVec.allOnes 160 from rfl, BitVec.getLsbD_allOnes]
  exact decide_eq_true p.isLt

/-! ## The invariant along steps -/

/-- The power-on values meet the invariant, whatever the parameters and the stores. -/
theorem blockReset_inv {s : State} (hm : s.mem.wf = true) (hi : s.io.wf = true) :
    MachineInv (blockReset s) where
  pads _ := rfl
  padsKept := nofun
  released := nofun
  errSet := ⟨nofun, fun h => absurd rfl h⟩
  errFits := rfl
  cfgOk h := absurd rfl h
  progress := ⟨rfl, rfl⟩
  supply := nofun
  latchOk := trivial
  memOk := hm
  ioOk := hi
  waits := nofun

/-- Settles O38: the reset state is what the block's reset makes of itself. -/
theorem resetMeetsInvariant : Obligations.ResetMeetsInvariant :=
  blockReset_inv (s := State.reset) rfl rfl

/-- The invariant does not speak of the host's registers. -/
theorem MachineInv.hostRegs {s : State} (h : MachineInv s) {b c d : Bool} {n : Option Nat}
    {l : List HostAct} :
    MachineInv { s with start := b, stopReq := c, tickLimit := n, verbose := d, host := l } :=
  ⟨h.pads, h.padsKept, h.released, h.errSet, h.errFits, h.cfgOk, h.progress, h.supply, h.latchOk,
    h.memOk, h.ioOk, h.waits⟩

/-- In S_OFF the invariant asks nothing of the parameters. -/
theorem MachineInv.configure {s : State} (h : MachineInv s) (hq : s.seq = .sOff) (c : Config) :
    MachineInv { s with cfg := c } where
  pads := by simpa [hq, padsAt] using h.pads
  padsKept he := by simp [hq] at he
  released he := by simp [hq] at he
  errSet := h.errSet
  errFits := h.errFits
  cfgOk ho := absurd hq ho
  progress := by simpa [hq, progressAt] using h.progress
  supply he := by
    have hg := h.progress
    rw [hq] at hg
    exact absurd (hg.2 ▸ he) Bool.false_ne_true
  latchOk := h.latchOk
  memOk := h.memOk
  ioOk := h.ioOk
  waits := h.waits

theorem hostAct_keepsInv {a : HostAct} {s t : State} (hs : MachineInv s)
    (h : hostAct a s = some t) : MachineInv t := by
  cases a with
  | nothing => cases h; exact hs
  | writeStopReq b => cases h; exact hs.hostRegs
  | writeStart b | writeTickLimit n | writeVerbose b =>
    simp only [hostAct] at h
    split at h <;> cases h
    exact hs.hostRegs
  | configure c =>
    simp only [hostAct] at h
    split at h <;> cases h
    exact hs.configure ‹_› c
  | blockReset => cases h; exact blockReset_inv hs.memOk hs.ioOk

theorem hostTurn_keepsInv {s t : State} (hs : MachineInv s) (h : hostTurn s = some t) :
    MachineInv t := by
  unfold hostTurn at h
  split at h
  · cases h; exact hs
  · exact hostAct_keepsInv hs.hostRegs h

/-- A step that answers a next state took the host's turn and ran what it fetched then. -/
theorem step_next {s t : State} (h : step s = .next t) :
    ∃ u, hostTurn s = some u ∧ runFetched u = .next t := by
  unfold step at h
  cases hu : hostTurn s with
  | some u => exact ⟨u, rfl, by rwa [hu] at h⟩
  | none => rw [hu] at h; cases h

/-- Settles O39: the host's turn keeps the invariant, and so does every action; a step is a run of
actions. -/
theorem stepKeepsInvariant : Obligations.StepKeepsInvariant := by
  intro s t hs h
  obtain ⟨u, hu, hr⟩ := step_next h
  obtain ⟨n, -, he⟩ := runs_runFetched u
  exact run_keeps (M := actionCore) (P := MachineInv)
    (fun _ _ hv ha => (acts_of_exec ha).keepsInv hv) (hostTurn_keepsInv hs hu) (he.trans hr)

end Sys2Proof.Machine
end

section
/-! What every one of the 41 operations has in common: it changes the state by the changes of `Change`
alone, and it looks at neither the unit of a step nor the trace port (spec/10_state.md R25, R30,
spec/60_exceptions.md R175). -/

namespace Sys2Proof.Machine

/-! ## Changes of the state -/

/-- One change an operation makes: a pad event, a halt, a request, or a write of registers that emits
nothing. -/
inductive Change : State → State → Prop where
  | env (s : State) : Change s s.tookEnv
  | init (s : State) : Change s s.padInit
  | power (s : State) (l : SupplyLevel) (v g : Mask) : Change s (s.padPower l v g)
  | drive (s : State) (out tri : Mask) : Change s (s.padDrive out tri)
  | sample (s : State) (v : Mask) : Change s (s.padSample v)
  | raise (s : State) (e : Err) (info : ErrInfo) : Change s (raise e info s)
  | halt (s : State) : Change s (haltStop s)
  | read (s : State) (sp : Space) (a : Addr) (w : Width) (v : Nat) :
      Change s (s.emit (.read sp a w v))
  | write (s : State) (sp : Space) (a : Addr) (v : Data) (w : Width) :
      Change s (s.emit (.write sp a v w))
  | registers {s t : State} (h : t = { s with
      seq := t.seq, s1 := t.s1, s2 := t.s2, s3 := t.s3, latch := t.latch, data := t.data,
      rcnt := t.rcnt, ticks := t.ticks, err := t.err, errInfo := t.errInfo, trace := t.trace,
      mem := t.mem, io := t.io, answers := t.answers, waiting := t.waiting }) : Change s t

/-- A sequence of changes. -/
abbrev Changes : State → State → Prop := Relation.ReflTransGen Change

/-! ## Two states that differ in the unit and the trace port -/

/-- The states agree but for the unit, VERBOSE and the trace, and under one VERBOSE in the trace. -/
def Alike (s s' : State) : Prop :=
  ∃ (u : StepUnit) (v : Bool) (tr : List TraceRecord),
    s' = { s with unit := u, verbose := v, trace := tr } ∧ (v = s.verbose → tr = s.trace)

theorem Alike.traced {s s' : State} (h : Alike s s') (r : TraceRecord) :
    s'.verbose = s.verbose → s'.traced r = s.traced r := by
  obtain ⟨u, v, tr, rfl, htr⟩ := h
  intro hv
  simp only [State.traced, show v = s.verbose from hv, htr hv]

theorem Alike.sampleTrace {s s' : State} (h : Alike s s') :
    s'.verbose = s.verbose → s'.sampleTrace = s.sampleTrace := by
  intro hv
  have ht := h.traced (.overDrive s.tri) hv
  obtain ⟨u, v, tr, rfl, htr⟩ := h
  simp only [State.sampleTrace, htr hv] at ht ⊢
  rw [ht]

/-! ## Actions with both properties -/

/-- Two answers that agree, their states related by `R`. -/
inductive Res.Agree {α : Type} (R : State → State → Prop) : Res α → Res α → Prop where
  | goes (a : α) {s t : State} (h : R s t) : Res.Agree R (.goes a s) (.goes a t)
  | ends {s t : State} (h : R s t) : Res.Agree R (.ends s) (.ends t)
  | stops (f : Fault) : Res.Agree R (.stops f) (.stops f)

theorem Res.Agree.andThen {α β : Type} {R : State → State → Prop} {r r' : Res α}
    {g g' : α → State → Res β} (h : r.Agree R r')
    (hg : ∀ a s s', R s s' → (g a s).Agree R (g' a s')) :
    (r.andThen g).Agree R (r'.andThen g') := by
  cases h with
  | goes a h => exact hg a _ _ h
  | ends h => exact .ends h
  | stops f => exact .stops f

/-- An action that changes the state by `Change` alone and looks at neither unit nor trace port. -/
structure Tame {α : Type} (f : State → Res α) : Prop where
  changes (s : State) : (f s).Sat (fun _ => Changes s) (Changes s)
  alike (s s' : State) : Alike s s' → (f s).Agree Alike (f s')

theorem Tame.andThen {α β : Type} {f : State → Res α} {g : α → State → Res β} (hf : Tame f)
    (hg : ∀ a, Tame (g a)) : Tame fun s => (f s).andThen g where
  changes s := by
    have hs := hf.changes s
    revert hs
    cases f s with
    | goes a t =>
      intro ht
      have h := (hg a).changes t
      revert h
      rw [andThen_goes]
      cases g a t with
      | goes b u => exact fun h => ht.trans h
      | ends u => exact fun h => ht.trans h
      | stops e => exact fun _ => trivial
    | ends t => exact id
    | stops e => exact id
  alike s s' h := (hf.alike s s' h).andThen fun a t t' => (hg a).alike t t'

/-- A function of the state that sees neither unit nor trace port. -/
def Unseen {γ : Type} (p : State → γ) : Prop :=
  ∀ (s : State) (u : StepUnit) (v : Bool) (tr : List TraceRecord),
    p { s with unit := u, verbose := v, trace := tr } = p s

theorem Unseen.eq {γ : Type} {p : State → γ} (hp : Unseen p) {s s' : State} (h : Alike s s') :
    p s' = p s := by
  obtain ⟨u, v, tr, rfl, -⟩ := h
  exact hp s u v tr

/-- An action chosen by what it reads of the state. -/
theorem tame_read {α γ : Type} {p : State → γ} (hp : Unseen p) {f : γ → State → Res α}
    (hf : ∀ c, Tame (f c)) : Tame fun s => f (p s) s where
  changes s := (hf (p s)).changes s
  alike s s' h := hp.eq h ▸ (hf (p s)).alike s s' h

theorem tame_stops {α : Type} (e : Fault) : Tame fun _ => (.stops e : Res α) :=
  ⟨fun _ => trivial, fun _ _ _ => .stops e⟩

/-- An update that leaves the unit and the trace port alone. -/
def Quiet (f : State → State) : Prop :=
  ∀ (s : State) (u : StepUnit) (v : Bool) (tr : List TraceRecord),
    f { s with unit := u, verbose := v, trace := tr } =
        { f s with unit := u, verbose := v, trace := tr } ∧
      (f s).verbose = s.verbose ∧ (f s).trace = s.trace

theorem Quiet.alike {f : State → State} (hf : Quiet f) {s s' : State} (h : Alike s s') :
    Alike (f s) (f s') := by
  obtain ⟨u, v, tr, rfl, htr⟩ := h
  obtain ⟨h1, h2, h3⟩ := hf s u v tr
  exact ⟨u, v, tr, h1, by rwa [h2, h3]⟩

theorem tame_goes {α : Type} (a : α) {f : State → State} (hc : ∀ s, Changes s (f s))
    (hf : Quiet f) : Tame fun s => Res.goes a (f s) :=
  ⟨hc, fun _ _ h => .goes a (hf.alike h)⟩

theorem tame_ends {α : Type} {f : State → State} (hc : ∀ s, Changes s (f s)) (hf : Quiet f) :
    Tame fun s => (.ends (f s) : Res α) :=
  ⟨hc, fun _ _ h => .ends (hf.alike h)⟩

/-- An action that goes on after a write of registers. -/
theorem tame_write {f : State → State} (hc : ∀ s, Change s (f s)) (hf : Quiet f) :
    Tame fun s => Res.goes () (f s) :=
  tame_goes () (fun s => .single (hc s)) hf

theorem tame_goto (q : Seq) : Tame (goto q) :=
  tame_write (fun _ => .registers rfl) fun _ _ _ _ => ⟨rfl, rfl, rfl⟩

theorem Alike.raise {s s' : State} (h : Alike s s') (e : Err) (info : ErrInfo) :
    Alike (raise e info s) (raise e info s') := by
  have ht := h.traced (.error e info)
  obtain ⟨u, v, tr, rfl, -⟩ := h
  exact ⟨u, v, _, rfl, ht⟩

theorem tame_raise {α : Type} (e : Err) (info : ErrInfo) :
    Tame fun s => (.ends (raise e info s) : Res α) :=
  ⟨fun s => .single (.raise s e info), fun _ _ h => .ends (h.raise e info)⟩

theorem Alike.traceTransfer {s s' : State} (h : Alike s s') :
    Alike (traceTransfer s) (traceTransfer s') := by
  have ht := h.traced (.transfer s.ticks s.latch s.data)
  obtain ⟨u, v, tr, rfl, -⟩ := h
  exact ⟨u, v, _, rfl, ht⟩

/-- The end of a transfer tick writes its record and goes back to S_IDLE. -/
theorem tame_traceTransfer (q : Seq) : Tame fun s => goto q (traceTransfer s) :=
  ⟨fun _ => .single (.registers rfl), fun _ _ h => (tame_goto q).alike _ _ h.traceTransfer⟩

/-! ## The pad primitives and the requests -/

theorem tame_padEvent {eff : State → State} (hc : ∀ s, Change s (eff s))
    (ha : ∀ s s', Alike s s' → Alike (eff s) (eff s')) : Tame (padEvent eff) where
  changes s := padEvent_sat (.tail (.single (.env s)) (hc _))
    (.tail (.single (.env s)) (.raise _ _ _))
  alike s s' h := by
    have ht : Alike s.tookEnv s'.tookEnv := by
      obtain ⟨u, v, tr, rfl, htr⟩ := h
      exact ⟨u, v, tr, rfl, htr⟩
    have hfails : Unseen fun s => s.envAt 0 := fun _ _ _ _ => rfl
    have hout : Unseen State.out := fun _ _ _ _ => rfl
    have htri : Unseen State.tri := fun _ _ _ _ => rfl
    unfold padEvent
    rw [hfails.eq h, hout.eq (ha _ _ ht), htri.eq (ha _ _ ht)]
    split
    · exact .ends (ht.raise _ _)
    · split
      · exact .stops _
      · exact .goes () (ha _ _ ht)

theorem tame_init : Tame init :=
  tame_padEvent .init fun _ _ => Quiet.alike (f := State.padInit) fun _ _ _ _ => ⟨rfl, rfl, rfl⟩

theorem tame_power (l : SupplyLevel) (v g : Mask) : Tame (power l v g) :=
  tame_padEvent (.power · l v g) fun _ _ => Quiet.alike (f := State.padPower l v g)
    fun _ _ _ _ => ⟨rfl, rfl, rfl⟩

theorem tame_drive (out tri : Mask) : Tame (drive out tri) :=
  tame_padEvent (.drive · out tri) fun _ _ => Quiet.alike (f := State.padDrive out tri)
    fun _ _ _ _ => ⟨rfl, rfl, rfl⟩

/-- A Drive whose pair is read off the state. -/
theorem tame_driveOf {p : State → Mask × Mask} (hp : Unseen p) :
    Tame fun s => drive (p s).1 (p s).2 s :=
  tame_read hp fun p => tame_drive p.1 p.2

theorem Alike.padSample {s s' : State} (h : Alike s s') (m : Mask) :
    Alike (s.padSample m) (s'.padSample m) := by
  have ht := h.sampleTrace
  obtain ⟨u, v, tr, rfl, -⟩ := h
  exact ⟨u, v, _, rfl, ht⟩

theorem tame_sample : Tame sample :=
  tame_read (p := State.sampleNow) (fun _ _ _ _ => rfl) fun m =>
    (tame_padEvent (.sample · m) fun _ _ h => h.padSample m).andThen fun _ =>
      tame_goes m (fun _ => .refl) fun _ _ _ _ => ⟨rfl, rfl, rfl⟩

theorem tame_hung {α : Type} : Tame fun s => (.ends s.hung : Res α) :=
  tame_ends (fun _ => .single (.registers rfl)) fun _ _ _ _ => ⟨rfl, rfl, rfl⟩

/-- A request's event and the answer that it uses up. -/
theorem changes_request {s t : State} (h : Change s t) :
    Changes s { t with answers := t.answers.tail } := .tail (.single h) (.registers rfl)

theorem unseen_store (sp : Space) : Unseen fun s => s.store sp := by
  cases sp <;> exact fun _ _ _ _ => rfl

theorem unseen_answerNow : Unseen State.answerNow := fun _ _ _ _ => rfl

/-- A read request answered with `v`. -/
theorem tame_answered (sp : Space) (a : Addr) (w : Width) (v : Nat) : Tame fun s => Res.goes v
    { s with answers := s.answers.tail, events := s.events ++ [.read sp a w v] } :=
  tame_goes v (fun s => changes_request (.read s sp a w v)) fun _ _ _ _ => ⟨rfl, rfl, rfl⟩

theorem tame_memRead (sp : Space) (a : Addr) (w : Width) : Tame (memRead sp a w) where
  changes s := by
    rcases memRead_cases sp a w s with ⟨v, h⟩ | h | h <;> rw [h]
    · exact (tame_answered sp a w v).changes s
    · trivial
    · exact tame_hung.changes (α := Nat) s
  alike s s' h := by
    unfold memRead
    rw [unseen_answerNow.eq h, (unseen_store sp).eq h]
    cases s.answerNow with
    | reference =>
      cases (s.store sp).read a w with
      | some v => exact (tame_answered sp a w v.toNat).alike s s' h
      | none => exact .stops _
    | other v => exact (tame_answered sp a w v).alike s s' h
    | silent => exact (tame_hung (α := Nat)).alike s s' h

/-- A write request completed, the store being `m` afterwards. -/
theorem tame_stored (sp : Space) (a : Addr) (v : Data) (w : Width) (m : Memory) :
    Tame fun s => Res.goes () (State.withStore
      { s with answers := s.answers.tail, events := s.events ++ [.write sp a v w] } sp m) := by
  refine tame_goes () (fun s => (changes_request (.write s sp a v w)).tail ?_) ?_ <;> cases sp
  iterate 2 exact .registers rfl
  iterate 2 exact fun _ _ _ _ => ⟨rfl, rfl, rfl⟩

theorem tame_forwarded (sp : Space) (a : Addr) (v : Data) (w : Width) : Tame fun s => Res.goes ()
    { s with answers := s.answers.tail, events := s.events ++ [.write sp a v w] } :=
  tame_goes () (fun s => changes_request (.write s sp a v w)) fun _ _ _ _ => ⟨rfl, rfl, rfl⟩

theorem tame_memWrite (sp : Space) (a : Addr) (v : Data) (w : Width) :
    Tame (memWrite sp a v w) where
  changes s := by
    rcases memWrite_cases sp a v w s with ⟨m, -, h⟩ | h | h | h <;> rw [h]
    · exact (tame_stored sp a v w m).changes s
    · exact (tame_forwarded sp a v w).changes s
    · trivial
    · exact tame_hung.changes (α := Unit) s
  alike s s' h := by
    unfold memWrite
    rw [unseen_answerNow.eq h, (unseen_store sp).eq h]
    cases s.answerNow with
    | reference =>
      cases (s.store sp).write a v w with
      | some m => exact (tame_stored sp a v w m).alike s s' h
      | none => exact .stops _
    | other n => exact (tame_forwarded sp a v w).alike s s' h
    | silent => exact (tame_hung (α := Unit)).alike s s' h

/-! ## The actions of SEQ and the operations -/

/-- A Drive of a pair read off the state, then the successor. -/
theorem tame_driveGoto {p : State → Mask × Mask} (hp : Unseen p) (q : Seq) :
    Tame fun s => (drive (p s).1 (p s).2 s).andThen fun _ t => goto q t :=
  (tame_driveOf hp).andThen fun _ => tame_goto q

theorem tame_tickOpen : Tame tickOpen :=
  (tame_driveOf (p := fun s => (s.cfg.clkHigh, s.tri)) fun _ _ _ _ => rfl).andThen fun _ =>
    tame_sample.andThen fun v => tame_write (f := fun u => { u with s1 := v, ticks := u.ticks + 1 })
      (fun _ => .registers rfl) fun _ _ _ _ => ⟨rfl, rfl, rfl⟩

theorem tame_latchAddress : Tame latchAddress :=
  tame_write (fun _ => .registers rfl) fun _ _ _ _ => ⟨rfl, rfl, rfl⟩

theorem tame_idleAction : Tame idleAction :=
  tame_read (p := State.stopTest) (fun _ _ _ _ => rfl)
    (f := fun b s => if b = true then .goes () (haltStop s) else (tickOpen s).andThen fun _ t =>
      if aleAsserted t.cfg t.s1 then latchAddress t else goto .sILow t) fun b => by
    cases b with
    | true => exact tame_write .halt fun _ _ _ _ => ⟨rfl, rfl, rfl⟩
    | false =>
      refine tame_tickOpen.andThen fun _ => tame_read (p := fun t => aleAsserted t.cfg t.s1)
        (fun _ _ _ _ => rfl) (f := fun b t => if b = true then latchAddress t else goto .sILow t)
        fun b => ?_
      cases b with
      | true => exact tame_latchAddress
      | false => exact tame_goto .sILow

theorem tame_iLow : Tame iLow :=
  tame_driveGoto (p := fun s => (s.cfg.clkLow, s.tri)) (fun _ _ _ _ => rfl) .sIHigh

theorem tame_iHigh : Tame iHigh :=
  tame_driveGoto (p := fun s => (s.cfg.clkHigh, s.tri)) (fun _ _ _ _ => rfl) .sIdle

theorem tame_resample : Tame resample :=
  (tame_driveOf (p := fun s => (s.cfg.clkLow, s.tri)) fun _ _ _ _ => rfl).andThen fun _ =>
    tame_sample.andThen fun v => tame_write (f := fun u => { u with s2 := v })
      (fun _ => .registers rfl) fun _ _ _ _ => ⟨rfl, rfl, rfl⟩

theorem tame_latchKind (k : CycleKind) : Tame (latchKind k) :=
  tame_write (fun _ => .registers rfl) fun _ _ _ _ => ⟨rfl, rfl, rfl⟩

theorem tame_decodeAction : Tame decodeAction := by
  have h (c : Except Err (Direction × Space × Width) × DecodeWord) :
      Tame (decodeEnd c.1 c.2) := by
    obtain ⟨_ | ⟨dir, sp, w⟩, d⟩ := c
    · exact tame_raise _ _
    · exact tame_latchKind _
  exact tame_read (p := fun s =>
    (decodeCycle s.cfg s.s2 s.latch.addr, assembleDw s.cfg s.s2 s.latch.addr))
    (fun _ _ _ _ => rfl) h

theorem tame_aLow : Tame aLow := tame_resample.andThen fun _ => tame_decodeAction

theorem tame_aHigh : Tame aHigh :=
  (tame_driveOf (p := fun s => (s.cfg.clkHigh, s.tri)) fun _ _ _ _ => rfl).andThen fun _ =>
    tame_read (p := fun t => transferEntry t.latch.dir) (fun _ _ _ _ => rfl) tame_goto

theorem tame_acceptRead (r : Nat) : Tame (acceptRead r) :=
  tame_read (p := fun s => readValue s.cfg s.latch.width r) (fun _ _ _ _ => rfl)
    (f := fun n s => if n ≤ 65535 then goto .sRdLow { s with data := BitVec.ofNat 16 n }
      else .ends (raise .contractViolation (.value n) s)) fun n => by
    by_cases h : n ≤ 65535
    · simp only [h, if_true]
      exact tame_write (fun _ => .registers rfl) fun _ _ _ _ => ⟨rfl, rfl, rfl⟩
    · simp only [h, if_false]
      exact tame_raise _ _

theorem tame_unlessWaiting {α : Type} {f : State → Res α} (hf : Tame f) :
    Tame fun s => if s.waiting then .stops .backendSilent else f s :=
  tame_read (p := State.waiting) (fun _ _ _ _ => rfl)
    (f := fun b s => if b = true then .stops .backendSilent else f s) fun b => by
    cases b with
    | true => exact tame_stops _
    | false => exact hf

theorem tame_rdReq : Tame rdReq :=
  tame_unlessWaiting <|
    (tame_driveOf (p := fun s => (s.out, s.cfg.triDefault)) fun _ _ _ _ => rfl).andThen fun _ =>
      (tame_read (p := State.latch) (fun _ _ _ _ => rfl) fun l =>
        tame_memRead l.space l.addr l.width).andThen tame_acceptRead

theorem tame_rdLow : Tame rdLow :=
  tame_driveGoto (p := fun s => (s.cfg.clkLow ||| s.cfg.dataMask s.data, s.cfg.triRead))
    (fun _ _ _ _ => rfl) .sRdHigh

theorem tame_rdHigh : Tame rdHigh :=
  tame_driveGoto (p := fun s => (s.cfg.clkHigh ||| s.cfg.dataMask s.data, s.tri))
    (fun _ _ _ _ => rfl) .sRdRel

theorem tame_rdRel : Tame rdRel :=
  (tame_driveOf (p := fun s => (s.cfg.clkHigh, s.cfg.triDefault)) fun _ _ _ _ => rfl).andThen
    fun _ => tame_traceTransfer .sIdle

/-- S_WR_CAP's capture, then its request. -/
theorem tame_capture (l : Latch) (v : Mask) (d : Data) : Tame fun t =>
    memWrite l.space l.addr d l.width { t with s3 := v, data := d } :=
  (tame_write (f := fun t => { t with s3 := v, data := d }) (fun _ => .registers rfl)
    fun _ _ _ _ => ⟨rfl, rfl, rfl⟩).andThen fun _ => tame_memWrite l.space l.addr d l.width

theorem tame_wrCap : Tame wrCap :=
  tame_unlessWaiting <| tame_sample.andThen fun v =>
    (tame_read (p := fun t => (t.latch, t.cfg)) (fun _ _ _ _ => rfl) fun c =>
      tame_capture c.1 v (c.2.decodeData v)).andThen fun _ => tame_goto .sWrLow

theorem tame_wrLow : Tame wrLow :=
  tame_driveGoto (p := fun s => (s.cfg.clkLow, s.tri)) (fun _ _ _ _ => rfl) .sWrHigh

theorem tame_wrHigh : Tame wrHigh :=
  (tame_driveOf (p := fun s => (s.cfg.clkHigh, s.tri)) fun _ _ _ _ => rfl).andThen
    fun _ => tame_traceTransfer .sIdle

theorem tame_cycleOpen (k : CycleKind) : Tame (cycleOpen k) :=
  tame_tickOpen.andThen fun _ => tame_latchAddress.andThen fun _ => tame_resample.andThen fun _ =>
    (tame_latchKind k).andThen fun _ => tame_aHigh

theorem tame_transferTail (dir : Direction) : Tame (transferTail dir) := by
  cases dir with
  | read => exact tame_rdReq.andThen fun _ => tame_rdLow.andThen fun _ =>
      tame_rdHigh.andThen fun _ => tame_rdRel
  | write => exact tame_wrCap.andThen fun _ => tame_wrLow.andThen fun _ => tame_wrHigh

/-- A whole transfer tick (44 R139). -/
theorem tame_transfer (k : CycleKind) :
    Tame fun s => (cycleOpen k s).andThen fun _ t => transferTail k.dir t :=
  (tame_cycleOpen k).andThen fun _ => tame_transferTail k.dir

theorem tame_errorTick (e : Err) (d : DecodeWord) : Tame fun s =>
    (tickOpen s).andThen fun _ t => (latchAddress t).andThen fun _ u =>
      (resample u).andThen fun _ v => (.ends (raise e (.dw d) v) : Res Unit) :=
  tame_tickOpen.andThen fun _ => tame_latchAddress.andThen fun _ => tame_resample.andThen fun _ =>
    tame_raise e (.dw d)

theorem tame_sRs1 : Tame fun s => (init s).andThen fun _ t =>
    (drive 0 t.cfg.triDefault t).andThen fun _ u =>
      goto .sRs2 { u with ticks := 0, err := .none, errInfo := .none, rcnt := 0 } :=
  tame_init.andThen fun _ =>
    (tame_driveOf (p := fun t => (0, t.cfg.triDefault)) fun _ _ _ _ => rfl).andThen fun _ =>
      tame_write (fun _ => .registers rfl) fun _ _ _ _ => ⟨rfl, rfl, rfl⟩

/-- Every operation but S_OFF, which may refuse a configuration, is a tame action. -/
theorem exec_tame (i : Instr) (hi : i ≠ .sOff) :
    ∃ f : State → Res Unit, Tame f ∧ ∀ s, exec i s = (f s).outcome := by
  cases i with
  | idle low => exact ⟨_, tame_tickOpen.andThen fun _ => (tame_goto .sILow).andThen fun _ =>
      tame_iLow.andThen fun _ => tame_iHigh, fun _ => rfl⟩
  | rdMW => exact ⟨_, tame_transfer ⟨.read, .memory, .word⟩, fun _ => rfl⟩
  | rdMUB => exact ⟨_, tame_transfer ⟨.read, .memory, .upperByte⟩, fun _ => rfl⟩
  | rdMLB => exact ⟨_, tame_transfer ⟨.read, .memory, .lowerByte⟩, fun _ => rfl⟩
  | rdIoW => exact ⟨_, tame_transfer ⟨.read, .io, .word⟩, fun _ => rfl⟩
  | rdIoUB => exact ⟨_, tame_transfer ⟨.read, .io, .upperByte⟩, fun _ => rfl⟩
  | rdIoLB => exact ⟨_, tame_transfer ⟨.read, .io, .lowerByte⟩, fun _ => rfl⟩
  | wrMW => exact ⟨_, tame_transfer ⟨.write, .memory, .word⟩, fun _ => rfl⟩
  | wrMUB => exact ⟨_, tame_transfer ⟨.write, .memory, .upperByte⟩, fun _ => rfl⟩
  | wrMLB => exact ⟨_, tame_transfer ⟨.write, .memory, .lowerByte⟩, fun _ => rfl⟩
  | wrIoW => exact ⟨_, tame_transfer ⟨.write, .io, .word⟩, fun _ => rfl⟩
  | wrIoUB => exact ⟨_, tame_transfer ⟨.write, .io, .upperByte⟩, fun _ => rfl⟩
  | wrIoLB => exact ⟨_, tame_transfer ⟨.write, .io, .lowerByte⟩, fun _ => rfl⟩
  | errDirNone | errDirBoth | errWidthRd | errWidthWr =>
    exact ⟨_, tame_errorTick _ _, fun _ => rfl⟩
  | sOff => exact absurd rfl hi
  | sRs1 => exact ⟨_, tame_sRs1, fun _ => rfl⟩
  | sRs2 => exact ⟨_, (tame_read (p := State.cfg) (fun _ _ _ _ => rfl) fun c =>
      tame_power c.vlevel c.vccMask c.gndMask).andThen fun _ => tame_goto .sRs3, fun _ => rfl⟩
  | sRs3 => exact ⟨_, tame_driveGoto (p := fun s => (s.cfg.clkHigh, s.tri)) (fun _ _ _ _ => rfl)
      .sRs4A, fun _ => rfl⟩
  | sRs4A => exact ⟨_, (tame_driveOf (p := fun s => (resetHigh s.cfg, s.tri))
      fun _ _ _ _ => rfl).andThen fun _ => tame_write
        (f := fun t => { t with rcnt := 0, seq := .sRs4L }) (fun _ => .registers rfl)
        fun _ _ _ _ => ⟨rfl, rfl, rfl⟩, fun _ => rfl⟩
  | sRs4L => exact ⟨_, tame_driveGoto (p := fun s => (resetLow s.cfg, s.tri)) (fun _ _ _ _ => rfl)
      .sRs4H, fun _ => rfl⟩
  | sRs4H => exact ⟨_, (tame_driveOf (p := fun s => (resetHigh s.cfg, s.tri))
      fun _ _ _ _ => rfl).andThen fun _ => tame_write
        (f := fun t => { t with
          rcnt := t.rcnt + 1
          seq := if t.cfg.resetCycles ≤ t.rcnt + 1 then .sRs5A else .sRs4L })
        (fun _ => .registers rfl) fun _ _ _ _ => ⟨rfl, rfl, rfl⟩, fun _ => rfl⟩
  | sRs5A => exact ⟨_, tame_driveGoto (p := fun s => (s.cfg.clkHigh, s.tri)) (fun _ _ _ _ => rfl)
      .sRs5L, fun _ => rfl⟩
  | sRs5L => exact ⟨_, tame_driveGoto (p := fun s => (s.cfg.clkLow, s.tri)) (fun _ _ _ _ => rfl)
      .sRs5H, fun _ => rfl⟩
  | sRs5H => exact ⟨_, tame_driveGoto (p := fun s => (s.cfg.clkHigh, s.tri)) (fun _ _ _ _ => rfl)
      .sIdle, fun _ => rfl⟩
  | sIdle => exact ⟨_, tame_idleAction, fun _ => rfl⟩
  | sILow => exact ⟨_, tame_iLow, fun _ => rfl⟩
  | sIHigh => exact ⟨_, tame_iHigh, fun _ => rfl⟩
  | sALow => exact ⟨_, tame_aLow, fun _ => rfl⟩
  | sAHigh => exact ⟨_, tame_aHigh, fun _ => rfl⟩
  | sRdReq => exact ⟨_, tame_rdReq, fun _ => rfl⟩
  | sRdLow => exact ⟨_, tame_rdLow, fun _ => rfl⟩
  | sRdHigh => exact ⟨_, tame_rdHigh, fun _ => rfl⟩
  | sRdRel => exact ⟨_, tame_rdRel, fun _ => rfl⟩
  | sWrCap => exact ⟨_, tame_wrCap, fun _ => rfl⟩
  | sWrLow => exact ⟨_, tame_wrLow, fun _ => rfl⟩
  | sWrHigh => exact ⟨_, tame_wrHigh, fun _ => rfl⟩
  | sStopped | sErr => exact ⟨fun s => .goes () s,
      tame_goes () (fun _ => .refl) fun _ _ _ _ => ⟨rfl, rfl, rfl⟩, fun _ => rfl⟩

/-- R30, R175: an operation that completes has changed the state by `Change` alone. -/
theorem exec_changes {i : Instr} {s t : State} (h : exec i s = .next t) : Changes s t := by
  by_cases hi : i = .sOff
  · subst hi
    cases hs : s.start with
    | false => rw [exec_sOff_stays hs] at h; cases h; exact .refl
    | true =>
      rw [exec_sOff_true hs] at h
      split at h <;> cases h
      exact .single (.registers rfl)
  · obtain ⟨f, hf, he⟩ := exec_tame i hi
    exact (hf.changes s).outcome (he s ▸ h)

/-- Two outcomes that agree, their states related by `R`. -/
inductive OutcomesAgree (R : State → State → Prop) :
    Host.Outcome State Fault Refusal → Host.Outcome State Fault Refusal → Prop where
  | next {s t : State} (h : R s t) : OutcomesAgree R (.next s) (.next t)
  | fault (r : Fault) : OutcomesAgree R (.fault r) (.fault r)
  | refused (r : Refusal) : OutcomesAgree R (.refused r) (.refused r)

theorem Res.Agree.outcomesAgree {R : State → State → Prop} {r r' : Res Unit} (h : r.Agree R r') :
    OutcomesAgree R r.outcome r'.outcome := by
  cases h with
  | goes _ h => exact .next h
  | ends h => exact .next h
  | stops f => exact .fault f

/-- R25, R175: an operation answers alike in two states that differ in unit and trace port alone. -/
theorem exec_agree {s s' : State} (i : Instr) (h : Alike s s') :
    OutcomesAgree Alike (exec i s) (exec i s') := by
  by_cases hi : i = .sOff
  · subst hi
    have hs : s'.start = s.start := Unseen.eq (p := State.start) (fun _ _ _ _ => rfl) h
    have hc : s'.cfg.wf = s.cfg.wf := Unseen.eq (p := fun s => s.cfg.wf) (fun _ _ _ _ => rfl) h
    cases h1 : s.start with
    | false => rw [exec_sOff_stays h1, exec_sOff_stays (hs.trans h1)]; exact .next h
    | true =>
      rw [exec_sOff_true h1, exec_sOff_true (hs.trans h1), hc]
      split
      · exact .next (Quiet.alike (f := fun s => { s with seq := .sRs1 })
          (fun _ _ _ _ => ⟨rfl, rfl, rfl⟩) h)
      · exact .refused _
  · obtain ⟨f, hf, he⟩ := exec_tame i hi
    rw [he, he]
    exact (hf.alike s s' h).outcomesAgree

end Sys2Proof.Machine
end

section
/-! What follows from `Change` and `Alike`: the host's registers, the history, the trace port, and the two
units of a step (spec/10_state.md R13, R25, R30, spec/60_exceptions.md R175). -/

namespace Sys2Proof.Machine

/-- What belongs to the host and the model's configuration of a step. -/
def State.hostPart (s : State) :=
  (s.start, s.stopReq, s.tickLimit, s.verbose, s.cfg, s.host, s.unit)

theorem hostPart_iff {s t : State} : t.hostPart = s.hostPart ↔
    t.start = s.start ∧ t.stopReq = s.stopReq ∧ t.tickLimit = s.tickLimit ∧
      t.verbose = s.verbose ∧ t.cfg = s.cfg ∧ t.host = s.host ∧ t.unit = s.unit := by
  simp only [State.hostPart, Prod.mk.injEq]

theorem verbose_of_hostPart {s t : State} (h : t.hostPart = s.hostPart) :
    t.verbose = s.verbose := by
  obtain ⟨-, -, -, hv, -⟩ := hostPart_iff.mp h
  exact hv

theorem host_of_hostPart {s t : State} (h : t.hostPart = s.hostPart) : t.host = s.host := by
  obtain ⟨-, -, -, -, -, hh, -⟩ := hostPart_iff.mp h
  exact hh

theorem unit_of_hostPart {s t : State} (h : t.hostPart = s.hostPart) : t.unit = s.unit := by
  obtain ⟨-, -, -, -, -, -, hu⟩ := hostPart_iff.mp h
  exact hu

theorem Change.hostPart_eq {s t : State} (h : Change s t) : t.hostPart = s.hostPart := by
  cases h with
  | registers h => exact (congrArg State.hostPart h).trans rfl
  | _ => rfl

theorem changes_hostPart {s t : State} (h : Changes s t) : t.hostPart = s.hostPart := by
  induction h with
  | refl => rfl
  | tail _ hc ih => exact hc.hostPart_eq.trans ih

theorem exec_hostPart {i : Instr} {s t : State} (h : exec i s = .next t) :
    t.hostPart = s.hostPart :=
  changes_hostPart (exec_changes h)

/-- Settles O50: no `Change` touches the host's part. -/
theorem hostRegistersReadOnly : Obligations.HostRegistersReadOnly := by
  intro i s t h
  obtain ⟨h1, h2, h3, h4, h5, h6, -⟩ := hostPart_iff.mp (exec_hostPart h)
  exact ⟨h1, h2, h3, h4, h5, h6⟩

theorem padsAfter_append (p : Mask × Mask) (es fs : List Event) :
    padsAfter p (es ++ fs) = padsAfter (padsAfter p es) fs := by
  induction es generalizing p with
  | nil => rfl
  | cons e es ih => cases e <;> exact ih _

/-- The history grows by `es`, whose pad events lead from the pads before to the pads after. -/
def GrowsBy (s t : State) (es : List Event) : Prop :=
  t.events = s.events ++ es ∧ (t.out, t.tri) = padsAfter (s.out, s.tri) es

theorem GrowsBy.trans {s t u : State} {es fs : List Event} (h : GrowsBy s t es)
    (h' : GrowsBy t u fs) : GrowsBy s u (es ++ fs) := by
  obtain ⟨he, hp⟩ := h
  obtain ⟨he', hp'⟩ := h'
  exact ⟨by rw [he', he, List.append_assoc], by rw [hp', hp, padsAfter_append]⟩

theorem Change.growsBy {s t : State} (h : Change s t) : ∃ es, GrowsBy s t es := by
  cases h with
  | env => exact ⟨[], (List.append_nil _).symm, rfl⟩
  | registers h =>
    exact ⟨[], (congrArg State.events h).trans (List.append_nil _).symm,
      (congrArg (fun u => (u.out, u.tri)) h).trans rfl⟩
  | _ => exact ⟨[_], rfl, rfl⟩

theorem changes_growBy {s t : State} (h : Changes s t) : ∃ es, GrowsBy s t es := by
  induction h with
  | refl => exact ⟨[], (List.append_nil _).symm, rfl⟩
  | tail _ hc ih =>
    obtain ⟨es, he⟩ := ih
    obtain ⟨fs, hf⟩ := hc.growsBy
    exact ⟨es ++ fs, he.trans hf⟩

/-- Settles O46: every `Change` appends the events that give its pads, and so does a sequence of them. -/
theorem historyGivesPads : Obligations.HistoryGivesPads :=
  fun _ _ _ h => changes_growBy (exec_changes h)

/-- A function that sees no difference between two final states sees none between two operations. -/
theorem outcomeMap_exec_congr {f : State → State} {s s' : State} (i : Instr) (h : Alike s s')
    (hf : ∀ t t', Alike t t' → t.hostPart = s.hostPart → t'.hostPart = s'.hostPart → f t' = f t) :
    outcomeMap f (exec i s') = outcomeMap f (exec i s) := by
  have ha := exec_agree i h
  generalize ho : exec i s = o at ha
  generalize ho' : exec i s' = o' at ha
  cases ha with
  | next ht => exact congrArg Host.Outcome.next (hf _ _ ht (exec_hostPart ho) (exec_hostPart ho'))
  | fault r => rfl
  | refused r => rfl

/-- Settles O52: an operation looks at neither VERBOSE nor the trace. -/
theorem verboseOnlyTraces : Obligations.VerboseOnlyTraces := by
  intro i s b
  refine outcomeMap_exec_congr i ⟨s.unit, b, s.trace, rfl, fun _ => rfl⟩ fun t t' ht h h' => ?_
  obtain ⟨u, v, tr, rfl, -⟩ := ht
  rw [show u = t.unit from (unit_of_hostPart h').trans (unit_of_hostPart h).symm]

/-! ## The two units -/

/-- Without a host, in micro steps, a step is an action. -/
theorem run_core_eq {s : State} (hu : s.unit = .micro) (hh : s.host = []) (n : Nat) :
    core.run n s = actionCore.run n s := by
  induction n generalizing s with
  | zero => rfl
  | succ n ih =>
    have hs : step s = exec s.seq.instr s := (step_of_no_host hh).trans (runFetched_micro hu)
    cases he : exec s.seq.instr s with
    | next t =>
      have hp := exec_hostPart he
      rw [run_succ (M := core) (hs.trans he), run_succ (M := actionCore) he]
      exact ih ((unit_of_hostPart hp).trans hu) ((host_of_hostPart hp).trans hh)
    | fault r =>
      exact (run_fault (M := core) (hs.trans he) n).trans
        (run_fault (M := actionCore) he n).symm
    | refused r =>
      exact (run_refused (M := core) (hs.trans he) n).trans
        (run_refused (M := actionCore) he n).symm

theorem outcomeMap_eq_self {f : State → State} {o : Host.Outcome State Fault Refusal}
    (h : ∀ t, o = .next t → f t = t) : outcomeMap f o = o := by
  cases o with
  | next t => exact congrArg _ (h t rfl)
  | fault r => rfl
  | refused r => rfl

/-- An operation answers the same in either unit, the unit apart. -/
theorem exec_tick_eq_micro (i : Instr) (s : State) :
    outcomeMap (fun t => { t with unit := .micro }) (exec i { s with unit := .tick }) =
      exec i { s with unit := .micro } := by
  have hself : outcomeMap (fun t => { t with unit := .micro }) (exec i { s with unit := .micro }) =
      exec i { s with unit := .micro } :=
    outcomeMap_eq_self fun t ht => by
      have hu : t.unit = .micro := unit_of_hostPart (exec_hostPart ht)
      rw [← hu]
  refine (outcomeMap_exec_congr (s := { s with unit := .micro }) i
    ⟨.tick, s.verbose, s.trace, rfl, fun _ => rfl⟩
    fun t t' ht h h' => ?_).trans hself
  obtain ⟨u, v, tr, rfl, htr⟩ := ht
  have hv : v = t.verbose := (verbose_of_hostPart h').trans (verbose_of_hostPart h).symm
  rw [hv, htr hv]

/-- Settles O34: the row that the samples select is the sequence of the actions of SEQ, and an operation
does not look at the unit. -/
theorem tickIsItsMicroSteps : Obligations.TickIsItsMicroSteps := by
  intro s hq hs hh
  obtain ⟨i, hi, hr⟩ := runFetched_dw (s := { s with unit := .tick }) rfl hq hs
  obtain ⟨n, hn, hrun⟩ := runs_wholeTick (s := { s with unit := .micro }) hq hs
  refine ⟨n, hn, ?_⟩
  rw [step_of_no_host (s := { s with unit := .tick }) hh, hr, exec_tick_eq_micro,
    exec_eq_wholeTick (s := { s with unit := .micro }) hs hi, ← hrun]
  exact run_core_eq (s := { s with unit := .micro }) rfl hh n

end Sys2Proof.Machine
end

section
/-! The pads of every state that meets the invariant, pin by pin (spec/10_state.md R17, R35). -/

namespace Sys2Proof

/-! ## The masks of a well-formed configuration -/

section Masks
variable {c : Config}

/-- R27: an always-driven role and CLK or RESET share no pin. -/
theorem pin_ne_of_driven (h : c.wf = true) {r q : Role} (hr : r ∈ c.alwaysDriven)
    (hq : q = .clk ∨ q = .reset) (hne : r ≠ q) : c.pins.pin r ≠ c.pins.pin q := by
  obtain ⟨-, hclk, hreset⟩ := mem_alwaysDriven h
  have hqd : q ∈ c.alwaysDriven := by rcases hq with rfl | rfl <;> assumption
  intro hp
  rcases pin_injective h (mem_roles_of_driven hr) (mem_roles_of_driven hqd) hp with he | he
  · exact hne he
  · rcases hq with rfl | rfl <;> simp [duplicatePair] at he

theorem lvl_or (a b : Mask) (r : Role) : c.lvl (a ||| b) r = (c.lvl a r || c.lvl b r) := by
  simp [Config.lvl]

theorem lvl_zero (r : Role) : c.lvl 0#160 r = false := by simp [Config.lvl]

theorem lvl_bit_self (r : Role) : c.lvl (c.bit r) r = true := (getLsbD_bit c r _).mpr rfl

theorem lvl_bit_ne {r q : Role} (h : c.pins.pin r ≠ c.pins.pin q) : c.lvl (c.bit r) q = false :=
  Bool.eq_false_iff.mpr fun hb => h ((getLsbD_bit c r _).mp hb)

/-- AH has neither the clock's nor the reset's pin (R28). -/
theorem lvl_ah (h : c.wf = true) {q : Role} (hq : q = .clk ∨ q = .reset) :
    c.lvl c.ah q = false := by
  obtain ⟨hsub, -, -⟩ := mem_alwaysDriven h
  obtain ⟨-, -, -, -, -, -, -, hfree⟩ := wf_parts h
  simp only [Config.clockResetFree, Bool.and_eq_true, Bool.not_eq_true', Bool.eq_false_iff, ne_eq,
    List.contains_iff_mem] at hfree
  rw [Bool.eq_false_iff, Config.lvl, Config.ah, getLsbD_roleMask]
  simp only [ne_eq, List.any_eq_true, decide_eq_true_eq, not_exists, not_and]
  intro r hr he
  refine pin_ne_of_driven h (hsub r hr) hq ?_ (Fin.ext he)
  rintro rfl
  rcases hq with rfl | rfl
  · exact hfree.1 hr
  · exact hfree.2 hr

/-- An always-driven role has no data line's pin (R17). -/
theorem lvl_data16 (h : c.wf = true) {q : Role} (hq : q ∈ c.alwaysDriven) :
    c.lvl c.data16 q = false := by
  rw [Bool.eq_false_iff, Config.lvl, Config.data16, getLsbD_roleMask]
  simp only [ne_eq, List.any_eq_true, decide_eq_true_eq, not_exists, not_and]
  intro r hr he
  obtain ⟨n, -, rfl⟩ := List.mem_map.mp hr
  exact driven_ne_sampled h hq (ad_mem_sampled n) (Fin.ext he.symm)

/-- `dataMask` has no always-driven role's pin. -/
theorem lvl_dataMask_driven (h : c.wf = true) (v : Data) {q : Role} (hq : q ∈ c.alwaysDriven) :
    c.lvl (c.dataMask v) q = false := by
  have hb := congrArg (fun m : Mask => m.getLsbD (c.pins.pin q).val) (dataMask_sub_data16 c v)
  have hd : c.data16.getLsbD (c.pins.pin q).val = false := lvl_data16 h hq
  simp only [BitVec.getLsbD_and, BitVec.getLsbD_not, hd, (c.pins.pin q).isLt] at hb
  simpa [Config.lvl] using hb

/-- AH is set in a value of OUT (R35 INV-AH). -/
def Config.HasAh (c : Config) (m : Mask) : Prop := m &&& c.ah = c.ah

theorem hasAh_ah : c.HasAh c.ah := BitVec.and_self

theorem Config.HasAh.or {m : Mask} (hm : c.HasAh m) (n : Mask) : c.HasAh (m ||| n) := by
  apply BitVec.eq_of_getLsbD_eq
  intro i hi
  have hb := congrArg (fun m : Mask => m.getLsbD i) hm
  simp only [BitVec.getLsbD_and, BitVec.getLsbD_or] at hb ⊢
  cases hx : c.ah.getLsbD i <;> simp [hx] at hb ⊢
  exact .inl hb

theorem clkHigh_data16 (h : c.wf = true) : c.clkHigh &&& c.data16 = 0 := by
  obtain ⟨hsub, hclk, -⟩ := mem_alwaysDriven h
  have hm : c.clkHigh = c.roleMask (c.alwaysHigh ++ [.clk]) := by
    apply BitVec.eq_of_getLsbD_eq
    intro i hi
    simp [Config.clkHigh, Config.ah, Config.bit, getLsbD_roleMask, getLsbD_pinBit]
  rw [hm]
  refine roleMask_data16 h fun r hr => ?_
  rcases List.mem_append.mp hr with hr | hr
  · exact hsub r hr
  · rw [List.mem_singleton.mp hr]; exact hclk

theorem bit_reset_data16 (h : c.wf = true) : c.bit .reset &&& c.data16 = 0 := by
  obtain ⟨-, -, hreset⟩ := mem_alwaysDriven h
  have hm : c.bit .reset = c.roleMask [.reset] := by
    simp [Config.bit, Config.roleMask, pinsBitmask]
  rw [hm]
  exact roleMask_data16 h fun r hr => by rw [List.mem_singleton.mp hr]; exact hreset

theorem ah_data16 (h : c.wf = true) : c.ah &&& c.data16 = 0 := by
  obtain ⟨hsub, -, -⟩ := mem_alwaysDriven h
  exact roleMask_data16 h hsub

theorem or_data16 {m n : Mask} (hm : m &&& c.data16 = 0) (hn : n &&& c.data16 = 0) :
    (m ||| n) &&& c.data16 = 0 := by
  rw [BitVec.and_comm, BitVec.and_or_distrib_left, BitVec.and_comm, hm, BitVec.and_comm, hn]
  rfl

/-- AD16 to AD19 stay released while a read drives its data (R35 INV-AD-HI). -/
theorem triRead_adHigh (h : c.wf = true) {n : Fin 20} (hn : 16 ≤ n.val) :
    c.triRead.getLsbD (c.pins.pin (.ad n)).val = true := by
  have hd : c.data16.getLsbD (c.pins.pin (.ad n)).val = false := by
    rw [Bool.eq_false_iff, Config.data16, getLsbD_roleMask]
    simp only [ne_eq, List.any_eq_true, decide_eq_true_eq, not_exists, not_and]
    intro r hr he
    obtain ⟨k, hk, rfl⟩ := List.mem_map.mp hr
    have hlt := (mem_dataIndex k).mp hk
    rw [ad_pin_injective h (Fin.ext he)] at hlt
    omega
  rw [Config.triRead, BitVec.getLsbD_and, BitVec.getLsbD_not, hd,
    triDefault_sampled h (ad_mem_sampled n)]
  simp

theorem triRead_data16 : c.triRead &&& c.data16 = 0 := by
  apply BitVec.eq_of_getLsbD_eq
  intro i hi
  simp only [Config.triRead, BitVec.getLsbD_and, BitVec.getLsbD_not]
  cases c.data16.getLsbD i <;> simp

end Masks

end Sys2Proof

namespace Sys2Proof.Machine

/-! ## The pads of each SEQ value -/

section PadsAt
variable {c : Config} {d : Data} {q : Seq}

theorem padsAt_hasAh (hq : q ∉ [.sOff, .sRs1, .sRs2, .sRs3, .sErr]) :
    c.HasAh (padsAt c d q).1 := by
  cases q <;> simp at hq
  all_goals
    simp only [padsAt, resetHigh, resetLow, Config.clkHigh, Config.clkLow]
    simp only [hasAh_ah, Config.HasAh.or]

theorem padsAt_tri_ne (hq : q ∉ [.sErr, .sOff, .sRs1]) (ht : (padsAt c d q).2 ≠ c.triDefault) :
    q = .sRdHigh ∨ q = .sRdRel := by
  cases q <;> simp [padsAt] at hq ht ⊢

/-- R17, R71: the three values of TRI. -/
theorem padsAt_tri_cases : (padsAt c d q).2 = BitVec.allOnes 160 ∨
    (padsAt c d q).2 = c.triDefault ∨ (padsAt c d q).2 = c.triRead := by
  cases q <;> simp [padsAt]

/-- R35 INV-DATA: data bits of OUT are set only while a read drives them. -/
theorem padsAt_data16 (h : q ≠ .sOff → c.wf = true) (hq : q ≠ .sRdHigh) (hq' : q ≠ .sRdRel) :
    (padsAt c d q).1 &&& c.data16 = 0 := by
  have hz : (0 : Mask) &&& c.data16 = 0 := BitVec.zero_and
  by_cases ho : q = .sOff
  · rw [ho]; exact hz
  · have hw := h ho
    have hh := clkHigh_data16 hw
    have hl : c.clkLow &&& c.data16 = 0 := ah_data16 hw
    have hrl : resetLow c &&& c.data16 = 0 := or_data16 (ah_data16 hw) (bit_reset_data16 hw)
    have hrh : resetHigh c &&& c.data16 = 0 := by
      have : resetHigh c = c.clkHigh ||| c.bit .reset := by
        rw [resetHigh, Config.clkHigh, BitVec.or_assoc, BitVec.or_assoc,
          BitVec.or_comm (c.bit .reset)]
      exact this ▸ or_data16 hh (bit_reset_data16 hw)
    cases q
    case sRdHigh => exact absurd rfl hq
    case sRdRel => exact absurd rfl hq'
    all_goals simp only [padsAt, hz, hh, hl, hrl, hrh]

/-- R35 INV-RESET, on the pads of each SEQ value. -/
theorem padsAt_reset (h : q ≠ .sOff → c.wf = true) (hq : q ≠ .sErr) :
    c.lvl (padsAt c d q).1 .reset = true ↔ q = .sRs4L ∨ q = .sRs4H ∨ q = .sRs5A := by
  by_cases ho : q = .sOff
  · simp [ho, padsAt, Config.lvl]
  · have hw := h ho
    obtain ⟨-, hclk, hreset⟩ := mem_alwaysDriven hw
    have hc : c.lvl (c.bit .clk) .reset = false :=
      lvl_bit_ne (pin_ne_of_driven hw hclk (.inr rfl) nofun)
    cases q
    case sErr => exact absurd rfl hq
    all_goals
      simp [padsAt, resetHigh, resetLow, Config.clkHigh, Config.clkLow, lvl_or, hc, lvl_zero,
        lvl_ah hw (.inr rfl), lvl_bit_self, lvl_dataMask_driven hw d hreset]

end PadsAt

section Pads
variable {s : State}

theorem MachineInv.out_eq (h : MachineInv s) (hq : s.seq ≠ .sErr) :
    s.out = (padsAt s.cfg s.data s.seq).1 := congrArg Prod.fst (h.pads hq)

theorem MachineInv.tri_eq (h : MachineInv s) (hq : s.seq ≠ .sErr) :
    s.tri = (padsAt s.cfg s.data s.seq).2 := congrArg Prod.snd (h.pads hq)

theorem MachineInv.hasAh (h : MachineInv s) (hq : s.seq ∉ [.sOff, .sRs1, .sRs2, .sRs3, .sErr]) :
    s.cfg.HasAh s.out := by
  have he : s.seq ≠ .sErr := fun he => hq (by simp [he])
  rw [h.out_eq he]
  exact padsAt_hasAh hq

/-- Settles O41: RESET is in the pads of three SEQ values. -/
theorem resetPinHighOnlyUnderReset : Obligations.ResetPinHighOnlyUnderReset := by
  intro s h hq
  rw [h.out_eq hq]
  exact padsAt_reset h.cfgOk hq

/-- The pads after an abort that is no AdapterIoError (R164). -/
theorem MachineInv.released_pads (h : MachineInv s) (hq : s.seq = .sErr) (he : s.err ≠ .adapterIo) :
    s.tri = s.cfg.triDefault ∧ s.out &&& s.cfg.data16 = 0 ∧ s.cfg.HasAh s.out ∧
      (s.cfg.lvl s.out .clk = true ↔ s.err = .contractViolation) := by
  obtain ⟨ht, ho⟩ := h.released hq he
  have hw := h.cfgOk (by simp [hq])
  have hlow : s.cfg.lvl s.cfg.ah .clk = false := lvl_ah hw (.inl rfl)
  by_cases hc : s.err = .contractViolation
  · rw [ho, if_pos hc]
    refine ⟨ht, clkHigh_data16 hw, hasAh_ah.or _, ?_⟩
    simp [hc, Config.clkHigh, lvl_or, lvl_bit_self]
  · rw [ho, if_neg hc]
    refine ⟨ht, ah_data16 hw, hasAh_ah, ?_⟩
    simp [hc, Config.clkLow, hlow]

/-- R35 INV-AD-HI, in S_ERR too: every value of TRI releases AD16 to AD19. -/
theorem MachineInv.adHigh (h : MachineInv s) (hq : s.seq ≠ .sOff) {n : Fin 20} (hn : 16 ≤ n.val) :
    s.pinOut (s.cfg.pins.pin (.ad n)) = none := by
  have hw := h.cfgOk hq
  have hpads : ∃ q, (s.out, s.tri) = padsAt s.cfg s.data q := by
    by_cases he : s.seq = .sErr
    · obtain ⟨q, -, hp⟩ := h.padsKept he
      exact ⟨q, hp⟩
    · exact ⟨s.seq, h.pads he⟩
  obtain ⟨q, hp⟩ := hpads
  have ht : s.tri = (padsAt s.cfg s.data q).2 := congrArg Prod.snd hp
  have hbit : s.tri.getLsbD (s.cfg.pins.pin (.ad n)).val = true := by
    rw [ht]
    rcases padsAt_tri_cases (c := s.cfg) (d := s.data) (q := q) with h3 | h3 | h3 <;> rw [h3]
    · rw [BitVec.getLsbD_allOnes]
      exact decide_eq_true (s.cfg.pins.pin (.ad n)).isLt
    · exact triDefault_sampled hw (ad_mem_sampled n)
    · exact triRead_adHigh hw hn
  rw [State.pinOut, if_pos hbit]

/-- INV-CLK, INV-TRI, INV-AH, INV-DATA and INV-AD-HI of one state. -/
theorem padInvariants (h : MachineInv s) :
    (s.seq = .sIdle → s.cfg.lvl s.out .clk = true ∧ s.tri = s.cfg.triDefault) ∧
    (s.seq ∉ [.sOff, .sRs1, .sRs2, .sRs3, .sErr] → s.out &&& s.cfg.ah = s.cfg.ah) ∧
    (s.seq ∉ [.sErr, .sOff, .sRs1] → s.tri ≠ s.cfg.triDefault →
      s.seq = .sRdHigh ∨ s.seq = .sRdRel) ∧
    (s.seq = .sOff ∨ s.seq = .sRs1 → s.out = 0 ∧ s.tri = BitVec.allOnes 160) ∧
    (s.seq = .sErr → s.err ≠ .adapterIo →
      s.tri = s.cfg.triDefault ∧ s.out &&& s.cfg.data16 = 0 ∧ s.out &&& s.cfg.ah = s.cfg.ah ∧
      (s.cfg.lvl s.out .clk = true ↔ s.err = .contractViolation)) ∧
    (s.seq ≠ .sErr → s.out &&& s.cfg.data16 ≠ 0 →
      (s.seq = .sRdHigh ∨ s.seq = .sRdRel) ∧ s.tri &&& s.cfg.data16 = 0) ∧
    (s.seq ≠ .sOff → ∀ n : Fin 20, 16 ≤ n.val → s.pinOut (s.cfg.pins.pin (.ad n)) = none) := by
  refine ⟨fun hq => ?_, h.hasAh, fun hq ht => ?_, fun hq => ?_, h.released_pads, fun hq hd => ?_,
    fun hq _ => h.adHigh hq⟩
  · rw [h.out_eq (by simp [hq]), h.tri_eq (by simp [hq]), hq]
    exact ⟨by simp [padsAt, Config.clkHigh, lvl_or, lvl_bit_self], rfl⟩
  · have he : s.seq ≠ .sErr := fun he => hq (by simp [he])
    exact padsAt_tri_ne hq (h.tri_eq he ▸ ht)
  · have he : s.seq ≠ .sErr := by rcases hq with hq | hq <;> simp [hq]
    rw [h.out_eq he, h.tri_eq he]
    rcases hq with hq | hq <;> rw [hq] <;> exact ⟨rfl, rfl⟩
  · rw [h.out_eq hq] at hd
    have hr : s.seq = .sRdHigh ∨ s.seq = .sRdRel := by
      by_contra hn
      obtain ⟨h1, h2⟩ := not_or.mp hn
      exact hd (padsAt_data16 h.cfgOk h1 h2)
    refine ⟨hr, ?_⟩
    rw [h.tri_eq hq]
    rcases hr with hr | hr <;> rw [hr] <;> exact triRead_data16

end Pads

/-! ## AH along steps -/

/-- A run past S_RS1 with AH set. -/
def AhHeld (s : State) : Prop := s.cfg.HasAh s.out ∧ s.seq ≠ .sOff ∧ s.seq ≠ .sRs1

/-- Every first pad event after S_RS1 drives AH, or keeps OUT. -/
theorem firstPad_hasAh {s : State} {q : Seq} {p : Mask × Mask} (h : s.cfg.HasAh s.out)
    (hq : q ≠ .sRs1) (hp : firstPad q.instr s = some p) : s.cfg.HasAh p.1 := by
  cases q <;> simp [Seq.instr, firstPad] at hp hq
  case sIdle => exact hp.2 ▸ hasAh_ah.or _
  case sRdReq | sWrCap => exact hp.2 ▸ h
  case sRs2 => exact hp ▸ h
  all_goals
    subst hp
    simp only [Config.clkHigh, Config.clkLow, hasAh_ah, Config.HasAh.or, BitVec.or_assoc]

/-- S_OFF and S_RS1 are successors of S_OFF alone. -/
theorem successors_past {q : Seq} (hq : q ≠ .sOff) :
    Seq.sOff ∉ q.successors ∧ Seq.sRs1 ∉ q.successors := by
  cases q
  case sOff => exact absurd rfl hq
  all_goals decide

theorem Acts.seq_past {s t : State} (h : Acts s s.seq t) (hs : AhHeld s) :
    t.seq ≠ .sOff ∧ t.seq ≠ .sRs1 := by
  obtain ⟨-, h0, h1⟩ := hs
  obtain ⟨hn0, hn1⟩ := successors_past h0
  rcases h.seq_cases rfl with hm | ⟨he, -⟩ | ⟨he, -⟩
  · exact ⟨fun he => hn0 (he ▸ hm), fun he => hn1 (he ▸ hm)⟩
  · simp [he]
  · exact he ▸ ⟨h0, h1⟩

/-- Every action after S_RS1 keeps AH, an abort included (R164). -/
theorem Acts.keepsAh {s t : State} (h : Acts s s.seq t) (hs : AhHeld s) : AhHeld t := by
  refine ⟨?_, h.seq_past hs⟩
  obtain ⟨ha, h0, h1⟩ := hs
  generalize hq : s.seq = q at h h0 h1
  cases h with
  | starts => exact absurd rfl h0
  | initialisedFails | initialises => exact absurd rfl h1
  | edge hp ht =>
    rw [afterEdge_cfg ht, afterEdge_out ht]
    exact firstPad_hasAh (s := s) ha h1 hp
  | sampleFails _ hp => exact firstPad_hasAh (s := s) ha h1 hp
  | idles | latches => exact hasAh_ah.or _
  | decodes | rejects => exact hasAh_ah
  | stores =>
    rw [withStore_cfg, withStore_out]
    exact ha
  | _ => exact ha

/-- The host changes neither OUT nor the configuration of a block that runs, but by its reset. -/
theorem hostTurn_keepsAh {s u : State} (hs : AhHeld s) (h : hostTurn s = some u) :
    AhHeld u ∨ u.seq = .sOff := by
  unfold hostTurn at h
  split at h
  · cases h; exact .inl hs
  · rename_i a rest _
    cases a with
    | nothing | writeStopReq => cases h; exact .inl hs
    | writeStart | writeTickLimit | writeVerbose =>
      simp only [hostAct] at h
      split at h <;> cases h
      exact .inl hs
    | configure =>
      obtain ⟨-, h0, -⟩ := hs
      simp [hostAct, h0] at h
    | blockReset => cases h; exact .inr rfl

/-- A step from S_OFF stays there or begins the reset sequence. -/
theorem runFetched_sOff {u t : State} (hq : u.seq = .sOff) (h : runFetched u = .next t) :
    t.seq = .sOff ∨ t.seq = .sRs1 := by
  rw [runFetched_seq (by simp [hq]), hq] at h
  change exec .sOff u = .next t at h
  cases hs : u.start with
  | false => rw [exec_sOff_stays hs] at h; cases h; exact .inl hq
  | true =>
    rw [exec_sOff_true hs] at h
    split at h <;> cases h
    exact .inr rfl

/-- Settles O40: the pads of each SEQ value, and AH along the run of actions of a step. -/
theorem invariantGivesPadInvariants : Obligations.InvariantGivesPadInvariants := by
  refine ⟨fun s h => padInvariants h, fun s t h hq herr hstep hoff => ?_⟩
  simp only [List.mem_cons, List.not_mem_nil, or_false, not_or] at hq hoff
  obtain ⟨h0, h1, h2, h3⟩ := hq
  have ha : s.cfg.HasAh s.out := by
    by_cases he : s.seq = .sErr
    · exact herr he
    · exact h.hasAh (by simp [h0, h1, h2, h3, he])
  obtain ⟨u, hu, hr⟩ := step_next hstep
  rcases hostTurn_keepsAh ⟨ha, h0, h1⟩ hu with hu | hu
  · obtain ⟨n, -, hn⟩ := runs_runFetched u
    obtain ⟨ht, -⟩ := run_keeps (M := actionCore) (P := AhHeld)
      (fun _ _ hv hx => (acts_of_exec hx).keepsAh hv) hu (hn.trans hr)
    exact ht
  · rcases runFetched_sOff hu hr with ht | ht
    · exact absurd ht hoff.1
    · exact absurd ht hoff.2

end Sys2Proof.Machine
end

section
/-! What the reference backend answers and keeps: a read and a write of each width, byte by byte, and the
two of them together (spec/20_memory.md R41, R46, R47, R56). -/

namespace Sys2Proof.Machine

/-- R42: the high byte of an even Word is inside the space. -/
theorem succ_lt_size_of_even {a : Addr} (h : a.getLsbD 0 = false) : a.toNat + 1 < Memory.size := by
  have hlt : a.toNat < 2 ^ 20 := a.isLt
  have heven : a.toNat % 2 = 0 := by simpa [BitVec.getLsbD, Nat.testBit_zero] using h
  rw [Memory.size]
  omega

theorem read_word_of_even (m : Memory) {a : Addr} (h : a.getLsbD 0 = false) :
    m.read a .word = some (m.byte (a.toNat + 1) ++ m.byte a.toNat) :=
  if_pos (succ_lt_size_of_even h)

theorem write_word_of_even (m : Memory) {a : Addr} (v : Data) (h : a.getLsbD 0 = false) :
    m.write a v .word =
      some ((m.set a.toNat (v.extractLsb' 0 8)).set (a.toNat + 1) (v.extractLsb' 8 8)) :=
  if_pos (succ_lt_size_of_even h)

theorem byte_of_unlisted {m : Memory} {a : Nat} (h : ∀ v, (a, v) ∉ m) :
    m.byte a = Memory.unlisted := by
  induction m with
  | nil => rfl
  | cons kv m ih =>
    obtain ⟨k, v⟩ := kv
    have hk : k ≠ a := fun hk => h v (hk ▸ List.mem_cons_self)
    rw [Memory.byte, if_neg hk]
    exact ih fun w hw => h w (List.mem_cons_of_mem _ hw)

/-- Settles O24, by the equation of `read` for each width. -/
theorem referenceBackendReads : Obligations.ReferenceBackendReads := by
  intro m a
  refine ⟨fun ha => ⟨_, read_word_of_even m ha, ?_, ?_⟩, ?_, ?_, byte_of_unlisted⟩
  · exact BitVec.extractLsb'_append_eq_right
  · exact BitVec.extractLsb'_append_eq_left
  · exact congrArg some (BitVec.toNat_setWidth_of_le (by decide))
  · exact congrArg some (BitVec.toNat_setWidth_of_le (by decide))

section Write
variable {m n : Memory} {a : Addr} {v : Data}

theorem byte_write_word (h : m.wf = true) (hw : m.write a v .word = some n) (b : Nat) :
    n.byte b = if b = a.toNat then v.extractLsb' 0 8
      else if b = a.toNat + 1 then v.extractLsb' 8 8 else m.byte b := by
  have hset := wfFrom_set h (Nat.zero_le _) (addr_lt a) (v.extractLsb' 0 8)
  simp only [Memory.write] at hw
  split at hw <;> cases hw
  rw [byte_set hset, byte_set h]
  by_cases hb : b = a.toNat
  · simp [hb]
  · simp [hb]

theorem byte_write_lowerByte (h : m.wf = true) (hw : m.write a v .lowerByte = some n) (b : Nat) :
    n.byte b = if b = a.toNat then v.extractLsb' 0 8 else m.byte b := by
  cases hw
  exact byte_set h _ _ b

theorem byte_write_upperByte (h : m.wf = true) (hw : m.write a v .upperByte = some n) (b : Nat) :
    n.byte b = if b = a.toNat then v.extractLsb' 8 8 else m.byte b := by
  cases hw
  exact byte_set h _ _ b

end Write

/-- Settles O25, by what a write of each width leaves and the canonical form it keeps. -/
theorem referenceBackendWrites : Obligations.ReferenceBackendWrites := by
  intro m a v h
  refine ⟨fun ha => ?_, ⟨_, rfl, wf_write (w := .lowerByte) h rfl, byte_write_lowerByte h rfl⟩,
    ⟨_, rfl, wf_write (w := .upperByte) h rfl, byte_write_upperByte h rfl⟩⟩
  have hw := write_word_of_even m v ha
  exact ⟨_, hw, wf_write h hw, byte_write_word h hw⟩

/-- A 16-bit value is its two bytes. -/
theorem high_append_low (v : Data) : v.extractLsb' 8 8 ++ v.extractLsb' 0 8 = v :=
  (BitVec.extractLsb'_append_extractLsb'_eq_extractLsb' rfl).trans BitVec.extractLsb'_eq_self

/-- Settles O26: the bytes that the writes leave, put together by the reads. -/
theorem mixedSizesAgree : Obligations.MixedSizesAgree := by
  intro m n a b v u h ha hb hw
  have hlow : n.byte a.toNat = v.extractLsb' 0 8 := by simp [byte_write_word h hw]
  have hhigh : n.byte (a.toNat + 1) = v.extractLsb' 8 8 := by simp [byte_write_word h hw]
  refine ⟨?_, ?_, ?_, _, rfl, ?_⟩
  · rw [read_word_of_even n ha, hlow, hhigh, high_append_low]
  · rw [Memory.read, hlow]
  · rw [Memory.read, hb, hhigh]
  · have hk := byte_write_upperByte (a := b) (v := u) (wf_write h hw) rfl
    rw [read_word_of_even _ ha, hk, hk, hb]
    simp [hlow]

end Sys2Proof.Machine
end

section
/-! No Word access leaves the address space (spec/20_memory.md R41, R42): which actions can raise the
fault `addressOutside`, and that the alignment of a latched cycle keeps them from it. -/

namespace Sys2Proof.Machine

/-! ## What no reachable state's step does, no run does -/

theorem run_never_faults {M : Host.Core} {P : M.State → Prop} {r : M.Fault}
    (hkeep : ∀ s t, P s → M.step s = .next t → P t) (hstep : ∀ s, P s → M.step s ≠ .fault r)
    {n : Nat} {s : M.State} (hs : P s) : M.run n s ≠ .fault r := by
  induction n generalizing s with
  | zero => exact nofun
  | succ n ih =>
    cases he : M.step s with
    | next t => rw [run_succ he]; exact ih (hkeep s t hs he)
    | fault f => rw [run_fault he]; exact he ▸ hstep s hs
    | refused f => rw [run_refused he]; exact nofun

/-! ## Actions that raise no `addressOutside` -/

/-- An action that does not stop with the fault `addressOutside`. -/
def Res.Inside {α : Type} (r : Res α) : Prop := r ≠ .stops .addressOutside

theorem Res.Inside.outcome {r : Res Unit} (h : r.Inside) : r.outcome ≠ .fault .addressOutside := by
  cases r with
  | goes a s => exact nofun
  | ends s => exact nofun
  | stops f => exact fun hf => h (by cases hf; rfl)

/-- `P` is what the first action leaves of use to the second. -/
theorem Res.Inside.andThen_of {α β : Type} {r : Res α} {g : α → State → Res β} {P : State → Prop}
    (hr : r.Inside) (hs : r.Sat (fun _ => P) fun _ => True) (hg : ∀ a s, P s → (g a s).Inside) :
    (r.andThen g).Inside := by
  cases r with
  | goes a s => exact hg a s hs
  | ends s => exact nofun
  | stops f => exact fun hf => hr (by cases hf; rfl)

theorem Res.Inside.andThen {α β : Type} {r : Res α} {g : α → State → Res β} (hr : r.Inside)
    (hg : ∀ a s, (g a s).Inside) : (r.andThen g).Inside :=
  hr.andThen_of (P := fun _ => True) (by cases r <;> trivial) fun a s _ => hg a s

/-- An action followed by a write of registers. -/
theorem Res.Inside.goesOn {α β : Type} {r : Res α} {b : α → State → β} {f : α → State → State}
    (hr : r.Inside) : (r.andThen fun a s => .goes (b a s) (f a s)).Inside :=
  hr.andThen fun _ _ => nofun

theorem padEvent_inside (eff : State → State) (s : State) : (padEvent eff s).Inside := by
  rcases padEvent_cases eff s with ⟨h, -⟩ | h | ⟨h, -⟩ <;> rw [h] <;> exact nofun

theorem drive_inside (out tri : Mask) (s : State) : (drive out tri s).Inside :=
  padEvent_inside _ s

theorem sample_inside (s : State) : (sample s).Inside :=
  (padEvent_inside _ s).goesOn

theorem tickOpen_inside (s : State) : (tickOpen s).Inside :=
  (drive_inside _ _ s).andThen fun _ t => (sample_inside t).goesOn

theorem idleAction_inside (s : State) : (idleAction s).Inside := by
  unfold idleAction
  split
  · exact nofun
  · refine (tickOpen_inside s).andThen fun _ t => ?_
    split
    · exact nofun
    · exact nofun

theorem decodeAction_inside (s : State) : (decodeAction s).Inside := by
  unfold decodeAction
  split <;> exact nofun

theorem aLow_inside (s : State) : (aLow s).Inside :=
  ((drive_inside _ _ s).andThen fun _ t => (sample_inside t).goesOn).andThen
    fun _ t => decodeAction_inside t

theorem acceptRead_inside (r : Nat) (s : State) : (acceptRead r s).Inside := by
  unfold acceptRead
  split <;> exact nofun

/-! ## The requests of an aligned cycle -/

/-- R42: an aligned cycle is answered by the reference backend. -/
theorem Latch.aligned.read {l : Latch} (h : l.aligned) (m : Memory) :
    ∃ v, m.read l.addr l.width = some v := by
  obtain ⟨a, dir, sp, w⟩ := l
  cases w with
  | word => exact ⟨_, read_word_of_even m h⟩
  | upperByte | lowerByte => exact ⟨_, rfl⟩

/-- R42: an aligned cycle is stored by the reference backend. -/
theorem Latch.aligned.write {l : Latch} (h : l.aligned) (m : Memory) (v : Data) :
    ∃ n, m.write l.addr v l.width = some n := by
  obtain ⟨a, dir, sp, w⟩ := l
  cases w with
  | word => exact ⟨_, write_word_of_even m v h⟩
  | upperByte | lowerByte => exact ⟨_, rfl⟩

theorem memRead_inside {l : Latch} (h : l.aligned) (s : State) :
    (memRead l.space l.addr l.width s).Inside := by
  obtain ⟨v, hv⟩ := h.read (s.store l.space)
  unfold memRead
  rw [hv]
  cases s.answerNow <;> exact nofun

theorem memWrite_inside {l : Latch} (h : l.aligned) (v : Data) (s : State) :
    (memWrite l.space l.addr v l.width s).Inside := by
  obtain ⟨m, hm⟩ := h.write (s.store l.space) v
  unfold memWrite
  rw [hm]
  cases s.answerNow <;> exact nofun

theorem rdReq_inside {s : State} (h : s.latch.aligned) : (rdReq s).Inside := by
  unfold rdReq
  split
  · exact nofun
  · exact (drive_inside _ _ s).andThen_of (P := fun t => t.latch.aligned) (drive_sat h trivial)
      fun _ t ht => (memRead_inside ht t).andThen acceptRead_inside

theorem wrCap_inside {s : State} (h : s.latch.aligned) : (wrCap s).Inside := by
  unfold wrCap
  split
  · exact nofun
  · exact (sample_inside s).andThen_of (P := fun t => t.latch.aligned) (sample_sat h trivial)
      fun _ t ht => (memWrite_inside ht _ _).goesOn

/-- R41, R42: no action of a state that meets the invariant needs a byte beyond the space. -/
theorem MachineInv.action_inside {s : State} (hs : MachineInv s) :
    exec s.seq.instr s ≠ .fault .addressOutside := by
  have hl := hs.latchOk
  cases hq : s.seq with
  | sOff =>
    change exec .sOff s ≠ _
    cases hst : s.start with
    | false => rw [exec_sOff_stays hst]; exact nofun
    | true => rw [exec_sOff_true hst]; split <;> exact nofun
  | sRs1 => exact ((padEvent_inside _ s).andThen fun _ t => (drive_inside _ _ t).goesOn).outcome
  | sRs2 => exact ((padEvent_inside _ s).goesOn).outcome
  | sIdle => exact (idleAction_inside s).outcome
  | sALow => exact (aLow_inside s).outcome
  | sRdReq => rw [hq] at hl; exact (rdReq_inside hl.1).outcome
  | sWrCap => rw [hq] at hl; exact (wrCap_inside hl.1).outcome
  | sStopped | sErr => exact nofun
  | _ => exact ((drive_inside _ _ s).goesOn).outcome

/-- Settles O44: a step is a run of actions of states that meet the invariant. -/
theorem wordNeverLeavesSpace : Obligations.WordNeverLeavesSpace := by
  intro s hs
  cases hu : hostTurn s with
  | none => rw [step_of_refused hu]; exact nofun
  | some u =>
    obtain ⟨n, -, hn⟩ := runs_runFetched u
    have hrun := run_never_faults (M := actionCore) (P := MachineInv) (r := .addressOutside) (n := n)
      (fun _ _ hv ha => (acts_of_exec ha).keepsInv hv) (fun _ hv => hv.action_inside)
      (hostTurn_keepsInv hs hu)
    simp only [step, hu]
    exact hn ▸ hrun

end Sys2Proof.Machine
end

section
/-! What the operations ask of the backend (spec/20_memory.md R40, R43, R46 to R48): how many requests
the history shows, and which store may have changed. -/

namespace Sys2Proof.Machine

/-! ## The backend's part of a state -/

/-- What the backend has to do with a state: the number of its requests and the two stores. -/
def State.backendPart (s : State) : Nat × Memory × Memory :=
  (s.events.countP Event.isRequest, s.mem, s.io)

theorem store_of_backendPart {s t : State} (h : t.backendPart = s.backendPart) (sp : Space) :
    t.store sp = s.store sp := by
  simp only [State.backendPart, Prod.mk.injEq] at h
  obtain ⟨-, hm, hi⟩ := h
  cases sp
  · exact hm
  · exact hi

theorem requests_of_backendPart {s t : State} (h : t.backendPart = s.backendPart) :
    t.events.countP Event.isRequest = s.events.countP Event.isRequest :=
  congrArg Prod.fst h

/-- An update that emits one event, which is no request, and touches no store. -/
theorem backendPart_emit {s t : State} {e : Event} (hr : e.isRequest = false)
    (he : t.events = s.events ++ [e]) (hm : t.mem = s.mem) (hi : t.io = s.io) :
    t.backendPart = s.backendPart := by
  simp [State.backendPart, he, hr, hm, hi]

section Updates
variable (s : State)

theorem raise_backendPart (e : Err) (info : ErrInfo) :
    (raise e info s).backendPart = s.backendPart := backendPart_emit rfl rfl rfl rfl

theorem haltStop_backendPart : (haltStop s).backendPart = s.backendPart :=
  backendPart_emit rfl rfl rfl rfl

theorem padInit_backendPart : s.padInit.backendPart = s.backendPart :=
  backendPart_emit rfl rfl rfl rfl

theorem padPower_backendPart (l : SupplyLevel) (v g : Mask) :
    (s.padPower l v g).backendPart = s.backendPart := backendPart_emit rfl rfl rfl rfl

theorem padDrive_backendPart (out tri : Mask) :
    (s.padDrive out tri).backendPart = s.backendPart := backendPart_emit rfl rfl rfl rfl

theorem padSample_backendPart (v : Mask) : (s.padSample v).backendPart = s.backendPart :=
  backendPart_emit rfl rfl rfl rfl

theorem droveSampled_backendPart (out tri : Mask) :
    (s.droveSampled out tri).backendPart = s.backendPart :=
  (padSample_backendPart _ _).trans (padDrive_backendPart _ out tri)

theorem opened_backendPart : s.opened.backendPart = s.backendPart :=
  droveSampled_backendPart s _ _

theorem resampled_backendPart : s.resampled.backendPart = s.backendPart :=
  droveSampled_backendPart s _ _

end Updates

theorem afterEdge_backendPart {s t : State} {q : Seq} (h : afterEdge s q = some t) :
    t.backendPart = s.backendPart := by
  cases q <;> cases h <;> rfl

/-! ## At most one request -/

/-- At most one request, which has changed no store but that of the space `o`. -/
structure Asks (o : Option Space) (s t : State) : Prop where
  requests : t.events.countP Event.isRequest ≤ s.events.countP Event.isRequest + 1
  store : ∀ sp, o ≠ some sp → t.store sp = s.store sp

theorem Asks.of_backendPart {o : Option Space} {s t : State}
    (h : t.backendPart = s.backendPart) : Asks o s t where
  requests := (requests_of_backendPart h).le.trans (Nat.le_succ _)
  store sp _ := store_of_backendPart h sp

/-- What leaves the backend alone may come before and after the request. -/
theorem Asks.between {o : Option Space} {s s' t t' : State} (h : Asks o s t)
    (hs : s.backendPart = s'.backendPart) (ht : t'.backendPart = t.backendPart) :
    Asks o s' t' where
  requests := by
    rw [requests_of_backendPart ht, ← requests_of_backendPart hs]
    exact h.requests
  store sp ho := by
    rw [store_of_backendPart ht, ← store_of_backendPart hs]
    exact h.store sp ho

theorem requested_asks (s : State) (v : Nat) : Asks none s (s.requested v) where
  requests := by simp [State.requested, Event.isRequest]
  store sp _ := by cases sp <;> rfl

theorem forwarded_asks (s : State) (o : Option Space) : Asks o s s.forwarded where
  requests := by simp [State.forwarded, Event.isRequest]
  store sp _ := by cases sp <;> rfl

/-- A completed write leaves the store of the other space. -/
theorem withStore_asks {s t : State} (h : Asks none s t) (sp : Space) (m : Memory) :
    Asks (some sp) s (t.withStore sp m) where
  requests := by cases sp <;> exact h.requests
  store sp' hne := by
    rw [← h.store sp' nofun]
    cases sp <;> cases sp'
    case memory.memory | io.io => exact absurd rfl hne
    all_goals rfl

/-- R43, R46 to R48: only S_RD_REQ and S_WR_CAP ask the backend anything, and once. -/
theorem Acts.asks {s t : State} {q : Seq} (h : Acts s q t) :
    t.backendPart = s.backendPart ∨ q = .sRdReq ∧ Asks none s t ∨
      q = .sWrCap ∧ Asks (some s.latch.space) s t := by
  cases h with
  | waits | starts | absorbs => exact .inl rfl
  | fails => exact .inl (raise_backendPart _ _ _)
  | initialisedFails => exact .inl ((raise_backendPart _ _ _).trans (padInit_backendPart _))
  | initialises => exact .inl ((padDrive_backendPart _ _ _).trans (padInit_backendPart _))
  | powers => exact .inl (padPower_backendPart _ _ _ _)
  | edge _ ht => exact .inl ((afterEdge_backendPart ht).trans (padDrive_backendPart _ _ _))
  | halts => exact .inl (haltStop_backendPart s)
  | sampleFails => exact .inl ((raise_backendPart _ _ _).trans (padDrive_backendPart _ _ _))
  | idles | latches => exact .inl (opened_backendPart s)
  | decodes => exact .inl (resampled_backendPart s)
  | rejects => exact .inl ((raise_backendPart _ _ _).trans (resampled_backendPart s))
  | readHangs => exact .inl (padDrive_backendPart _ _ _)
  | accepts => exact .inr (.inl ⟨rfl, (requested_asks s _).between rfl rfl⟩)
  | violates =>
    exact .inr (.inl ⟨rfl, (requested_asks s _).between rfl (raise_backendPart _ _ _)⟩)
  | writeHangs => exact .inl (padSample_backendPart _ _)
  | stores =>
    have hf : Asks none s { s.forwarded with seq := .sWrLow } :=
      (forwarded_asks s none).between rfl rfl
    exact .inr (.inr ⟨rfl, withStore_asks hf _ _⟩)
  | forwards => exact .inr (.inr ⟨rfl, (forwarded_asks s _).between rfl rfl⟩)

/-! ## Whole ticks -/

/-- An action of which every answer leaves the backend alone. -/
abbrev Res.KeepsBackend (r : Res Unit) (s : State) : Prop :=
  r.Sat (fun _ t => t.backendPart = s.backendPart) fun t => t.backendPart = s.backendPart

/-- An action of which every answer has asked as `Asks` says. -/
abbrev Res.Asking (r : Res Unit) (o : Option Space) (s : State) : Prop :=
  r.Sat (fun _ => Asks o s) (Asks o s)

theorem Res.Sat.imp {α : Type} {r : Res α} {P P' : α → State → Prop} {Q Q' : State → Prop}
    (h : r.Sat P Q) (hP : ∀ a t, P a t → P' a t) (hQ : ∀ t, Q t → Q' t) : r.Sat P' Q' := by
  cases r with
  | goes a t => exact hP a t h
  | ends t => exact hQ t h
  | stops f => trivial

theorem Res.KeepsBackend.after {r : Res Unit} {s t : State} (hr : r.KeepsBackend t)
    (h : t.backendPart = s.backendPart) : r.KeepsBackend s :=
  hr.imp (fun _ _ => (·.trans h)) fun _ => (·.trans h)

theorem Res.KeepsBackend.afterAsking {r : Res Unit} {o : Option Space} {s t : State}
    (hr : r.KeepsBackend t) (h : Asks o s t) : r.Asking o s :=
  hr.imp (fun _ _ => h.between rfl) fun _ => h.between rfl

theorem Res.Sat.and {α : Type} {r : Res α} {P P' : α → State → Prop} {Q Q' : State → Prop}
    (h : r.Sat P Q) (h' : r.Sat P' Q') :
    r.Sat (fun a t => P a t ∧ P' a t) fun t => Q t ∧ Q' t := by
  cases r with
  | goes a t => exact ⟨h, h'⟩
  | ends t => exact ⟨h, h'⟩
  | stops f => trivial

/-- An action of SEQ inside a tick answers as the SEQ value alone does. -/
theorem actsAs_of_exec {q : Seq} {s : State} {r : Res Unit} (hr : exec q.instr s = r.outcome) :
    r.ActsAs s q := by
  cases r with
  | goes a t => exact acts_of_exec hr
  | ends t => exact acts_of_exec hr
  | stops f => trivial

theorem action_keepsBackend (q : Seq) (s : State) {r : Res Unit}
    (hr : exec q.instr s = r.outcome) (hq : q ≠ .sRdReq ∧ q ≠ .sWrCap := by decide) :
    r.KeepsBackend s := by
  have h (t : State) (ha : Acts s q t) : t.backendPart = s.backendPart := by
    rcases ha.asks with hb | ⟨h1, -⟩ | ⟨h2, -⟩
    · exact hb
    · exact absurd h1 hq.1
    · exact absurd h2 hq.2
  exact (actsAs_of_exec hr).imp (fun _ => h) h

theorem tickOpen_opened (s : State) :
    (tickOpen s).Sat (fun _ t => t = s.opened) fun t => t.backendPart = s.backendPart :=
  tickOpen_sat (raise_backendPart _ _ _)
    ((raise_backendPart _ _ _).trans (padDrive_backendPart _ _ _))

theorem resample_resampled (s : State) :
    (resample s).Sat (fun _ t => t = s.resampled) fun t => t.backendPart = s.backendPart :=
  resample_sat (raise_backendPart _ _ _)
    ((raise_backendPart _ _ _).trans (padDrive_backendPart _ _ _))

/-- The two half-cycles of an active tick before its decode (43 R113, R114, R117). -/
theorem tickDecode_sat {s : State} {g : Unit → State → Res Unit} {P : Unit → State → Prop}
    {Q : State → Prop} (hQ : ∀ t, t.backendPart = s.backendPart → Q t)
    (hg : (g () s.latched.resampled).Sat P Q) :
    ((tickOpen s).andThen fun _ t => (latchAddress t).andThen fun _ u =>
      (resample u).andThen g).Sat P Q :=
  ((tickOpen_opened s).imp (fun _ _ => id) hQ).andThen fun _ _ ht => ht ▸
    ((resample_resampled s.latched).imp (fun _ _ => id)
      fun _ hu => hQ _ (hu.trans (opened_backendPart s))).andThen fun _ _ hu => hu ▸ hg

theorem decoded_backendPart (s : State) : s.latched.resampled.backendPart = s.backendPart :=
  (resampled_backendPart s.latched).trans (opened_backendPart s)

theorem errorTick_keepsBackend {e : Err} {d : DecodeWord} {s t : State}
    (h : errorTick e d s = .next t) : t.backendPart = s.backendPart := by
  refine Res.Sat.outcome (Q := fun t => t.backendPart = s.backendPart)
    (tickDecode_sat (fun _ => id) ?_) h
  exact (raise_backendPart _ e (.dw d)).trans (decoded_backendPart s)

theorem exec_idle_keepsBackend {low : BitVec 5} {s t : State} (h : exec (.idle low) s = .next t) :
    t.backendPart = s.backendPart := by
  refine Res.Sat.outcome (Q := fun t => t.backendPart = s.backendPart)
    ((tickOpen_opened s).andThen fun _ u hu => ?_) h
  subst hu
  have hlow : (iLow { s.opened with seq := .sILow }).KeepsBackend s :=
    (action_keepsBackend .sILow _ rfl).after (opened_backendPart s)
  exact hlow.andThen fun _ v hv => (action_keepsBackend .sIHigh v rfl).after hv

/-- A cycle opens without a request, and latches the space of its kind. -/
theorem cycleOpen_keepsBackend (k : CycleKind) (s : State) :
    (cycleOpen k s).Sat (fun _ t => t.latch.space = k.space ∧ t.backendPart = s.backendPart)
      fun t => t.backendPart = s.backendPart := by
  refine tickDecode_sat (fun _ => id) (Res.Sat.andThen
    (P := fun _ t => t.latch.space = k.space ∧ t.backendPart = s.backendPart)
    ⟨rfl, decoded_backendPart s⟩ fun _ u ⟨hl, hb⟩ => ?_)
  refine ((aHigh_sat u).and (action_keepsBackend .sAHigh u rfl)).imp
    (fun _ t ht => ?_) fun t ht => ht.2.trans hb
  obtain ⟨⟨hl', -⟩, hb'⟩ := ht
  exact ⟨hl' ▸ hl, hb'.trans hb⟩

theorem rdReq_asks (s : State) : (rdReq s).Asking none s := by
  have h (t : State) (ha : Acts s .sRdReq t) : Asks none s t := by
    rcases ha.asks with hb | ⟨-, h⟩ | ⟨hq, -⟩
    · exact .of_backendPart hb
    · exact h
    · cases hq
  exact (rdReq_actsAs s).imp (fun _ => h) h

theorem wrCap_asks (s : State) : (wrCap s).Asking (some s.latch.space) s := by
  have h (t : State) (ha : Acts s .sWrCap t) : Asks (some s.latch.space) s t := by
    rcases ha.asks with hb | ⟨hq, -⟩ | ⟨-, h⟩
    · exact .of_backendPart hb
    · cases hq
    · exact h
  exact (wrCap_actsAs s).imp (fun _ => h) h

/-- The store that the transfer of a cycle may change (20 R46 to R48). -/
def transferStore : Direction → Space → Option Space
  | .read, _ => none
  | .write, sp => some sp

theorem transferTail_asks (dir : Direction) (s : State) :
    (transferTail dir s).Asking (transferStore dir s.latch.space) s := by
  cases dir with
  | read =>
    refine (rdReq_asks s).andThen fun _ t ht => ?_
    refine ((action_keepsBackend .sRdLow t rfl).afterAsking ht).andThen fun _ u hu => ?_
    refine ((action_keepsBackend .sRdHigh u rfl).afterAsking hu).andThen fun _ v hv => ?_
    exact (action_keepsBackend .sRdRel v rfl).afterAsking hv
  | write =>
    refine (wrCap_asks s).andThen fun _ t ht => ?_
    refine ((action_keepsBackend .sWrLow t rfl).afterAsking ht).andThen fun _ u hu => ?_
    exact (action_keepsBackend .sWrHigh u rfl).afterAsking hu

/-- R43, R139: a transfer tick makes one request at most, of the space of its row. -/
theorem exec_transferInstr_asks {dir : Direction} {sp : Space} {w : Width} {s t : State}
    (h : exec (transferInstr dir sp w) s = .next t) : Asks (transferStore dir sp) s t := by
  rw [exec_transferInstr] at h
  refine Res.Sat.outcome (((cycleOpen_keepsBackend ⟨dir, sp, w⟩ s).imp (fun _ _ => id)
    fun _ => Asks.of_backendPart).andThen fun _ u ⟨hsp, hu⟩ => ?_) h
  have htail := transferTail_asks dir u
  rw [hsp] at htail
  exact htail.imp (fun _ _ ha => ha.between hu rfl) fun _ ha => ha.between hu rfl

/-! ## Every operation -/

/-- The operations, by what they are: an action of SEQ, a transfer, an idle tick, an error encoding. -/
inductive OpKind : Instr → Prop where
  | action (q : Seq) : OpKind q.instr
  | transfer (dir : Direction) (sp : Space) (w : Width) : OpKind (transferInstr dir sp w)
  | idle (low : BitVec 5) : OpKind (.idle low)
  | error {i : Instr} {e : Err} {d : DecodeWord} (h : errorCause i = some (e, d)) : OpKind i

theorem opKind_of_mem_map {i : Instr} (h : i ∈ Seq.all.map Seq.instr) : OpKind i := by
  obtain ⟨q, -, rfl⟩ := List.mem_map.mp h
  exact .action q

theorem opKind (i : Instr) : OpKind i := by
  cases i with
  | idle low => exact .idle low
  | errDirNone | errDirBoth | errWidthRd | errWidthWr => exact .error rfl
  | rdMW => exact .transfer .read .memory .word
  | rdMUB => exact .transfer .read .memory .upperByte
  | rdMLB => exact .transfer .read .memory .lowerByte
  | rdIoW => exact .transfer .read .io .word
  | rdIoUB => exact .transfer .read .io .upperByte
  | rdIoLB => exact .transfer .read .io .lowerByte
  | wrMW => exact .transfer .write .memory .word
  | wrMUB => exact .transfer .write .memory .upperByte
  | wrMLB => exact .transfer .write .memory .lowerByte
  | wrIoW => exact .transfer .write .io .word
  | wrIoUB => exact .transfer .write .io .upperByte
  | wrIoLB => exact .transfer .write .io .lowerByte
  | _ => exact opKind_of_mem_map (by decide)

/-- The operations that may ask the backend. -/
def MayAsk (i : Instr) : Prop :=
  i = .sRdReq ∨ i = .sWrCap ∨ ∃ sp w, (i, sp, w) ∈ readOps ++ writeOps

/-- The store that an operation may change. -/
def storeWritten (i : Instr) (s : State) : Option Space :=
  match i with
  | .wrMW | .wrMUB | .wrMLB => some .memory
  | .wrIoW | .wrIoUB | .wrIoLB => some .io
  | .sWrCap => some s.latch.space
  | _ => none

theorem transferInstr_mem (dir : Direction) (sp : Space) (w : Width) :
    (transferInstr dir sp w, sp, w) ∈ readOps ++ writeOps := by
  cases dir <;> cases sp <;> cases w <;> decide

theorem transferInstr_storeWritten (dir : Direction) (sp : Space) (w : Width) (s : State) :
    storeWritten (transferInstr dir sp w) s = transferStore dir sp := by
  cases dir <;> cases sp <;> cases w <;> rfl

/-- R43, R46 to R48: an operation that completes leaves the backend alone, or is a transfer, which asks
it at most once and changes the store of its space at most. -/
theorem exec_asks {i : Instr} {s t : State} (h : exec i s = .next t) :
    t.backendPart = s.backendPart ∨ MayAsk i ∧ Asks (storeWritten i s) s t := by
  cases opKind i with
  | action q =>
    rcases (acts_of_exec h).asks with hb | ⟨rfl, ha⟩ | ⟨rfl, ha⟩
    · exact .inl hb
    · exact .inr ⟨.inl rfl, ha⟩
    · exact .inr ⟨.inr (.inl rfl), ha⟩
  | transfer dir sp w =>
    exact .inr ⟨.inr (.inr ⟨sp, w, transferInstr_mem dir sp w⟩),
      transferInstr_storeWritten dir sp w s ▸ exec_transferInstr_asks h⟩
  | idle low => exact .inl (exec_idle_keepsBackend h)
  | error he => exact .inl (errorTick_keepsBackend (exec_of_errorCause he s ▸ h))

/-- A store that an operation does not write stays. -/
theorem exec_store {i : Instr} {s t : State} (h : exec i s = .next t) {sp : Space}
    (hsp : storeWritten i s ≠ some sp) : t.store sp = s.store sp := by
  rcases exec_asks h with hb | ⟨-, ha⟩
  · exact store_of_backendPart hb sp
  · exact ha.store sp hsp

theorem storeWritten_of_notWrite {i : Instr} (s : State)
    (h : i ∉ [.sWrCap, .wrMW, .wrMUB, .wrMLB, .wrIoW, .wrIoUB, .wrIoLB]) :
    storeWritten i s = none := by
  unfold storeWritten
  split <;> simp at h ⊢

theorem storeWritten_of_wrM {i : Instr} (s : State) (h : i ∈ [.wrMW, .wrMUB, .wrMLB]) :
    storeWritten i s = some .memory := by
  simp only [List.mem_cons, List.not_mem_nil, or_false] at h
  rcases h with rfl | rfl | rfl <;> rfl

theorem storeWritten_of_wrIo {i : Instr} (s : State) (h : i ∈ [.wrIoW, .wrIoUB, .wrIoLB]) :
    storeWritten i s = some .io := by
  simp only [List.mem_cons, List.not_mem_nil, or_false] at h
  rcases h with rfl | rfl | rfl <;> rfl

/-- Settles O27: each clause names the store that the operation may write. -/
theorem onlyWritesChangeStores : Obligations.OnlyWritesChangeStores := by
  intro i s t h
  have hmem := exec_store h (sp := .memory)
  have hio := exec_store h (sp := .io)
  refine ⟨fun hi => ?_, fun hi => hio ?_, fun hi => hmem ?_, ?_, ?_⟩
  · have hn := storeWritten_of_notWrite s hi
    exact ⟨hmem (by simp [hn]), hio (by simp [hn])⟩
  · simp [storeWritten_of_wrM s hi]
  · simp [storeWritten_of_wrIo s hi]
  · rintro rfl hl
    exact hio (by simp [storeWritten, hl])
  · rintro rfl hl
    exact hmem (by simp [storeWritten, hl])

/-- Settles O47: the requests among the events that the operation appended. -/
theorem oneRequestPerCycle : Obligations.OneRequestPerCycle := by
  intro i s t h
  obtain ⟨es, he, -⟩ := changes_growBy (exec_changes h)
  have hcount : t.events.countP Event.isRequest =
      s.events.countP Event.isRequest + es.countP Event.isRequest := by
    rw [he, List.countP_append]
  refine ⟨es, he, ?_⟩
  rcases exec_asks h with hb | ⟨hi, ha⟩
  · have hz : es.countP Event.isRequest = 0 := by
      have hsame := requests_of_backendPart hb
      omega
    exact ⟨hz ▸ Nat.zero_le 1, fun _ _ _ => hz⟩
  · have hone := ha.requests
    refine ⟨by omega, fun h1 h2 h3 => ?_⟩
    rcases hi with hi | hi | ⟨sp, w, hi⟩
    · exact absurd hi h1
    · exact absurd hi h2
    · exact absurd hi (h3 sp w)

end Sys2Proof.Machine
end

section
/-! The decoder and the encoder undo each other, and the decode word agrees with the sequential decode
(spec/30_encoding.md R64 to R68, spec/10_state.md R12, spec/43_bus_cycle_engine.md R126). -/

namespace Sys2Proof

/-! ## From a word to its operation and back -/

theorem encode_instr (q : Seq) : encode q.instr = (.sq, sqWord q) := by cases q <;> rfl

/-- R68: the operation that a row builds is encoded as the decode word that the row selected, for each
of the 17 rows. -/
theorem encode_build : ∀ r ∈ dwTable, ∀ d : DecodeWord, r.selects d = true →
    encode (r.build d) = (.dw, dwWord d) := by decide +kernel

theorem encode_of_decodeDw {d : DecodeWord} {i : Instr} (h : decodeDw d = .ok i) :
    encode i = (.dw, dwWord d) := by
  unfold decodeDw at h
  split at h
  · next r hr =>
    cases h
    have hs : r.selects d = true := List.find?_some (p := fun r : DwRow => r.selects d) hr
    exact encode_build r (List.mem_of_find?_eq_some hr) d hs
  · cases h

theorem code_of_ofCode {c : BitVec 5} {q : Seq} (h : Seq.ofCode c = some q) : q.code = c := by
  have hall : ∀ c : BitVec 5, (Seq.ofCode c).all (fun q => q.code == c) = true := by decide
  simpa [h] using hall c

/-- The bytes that decode in format DW. -/
theorem decode_dw_eq_ok {w : Word} {i : Instr} (h : decode .dw w = .ok i) :
    ∃ d, w = dwWord d ∧ decodeDw d = .ok i := by
  simp only [decode] at h
  split at h
  · next hw =>
    refine ⟨w.setWidth 6, BitVec.eq_of_toNat_eq ?_, h⟩
    simp only [dwWord, BitVec.toNat_setWidth]
    omega
  · cases h

/-- The bytes that decode in format SQ. -/
theorem decode_sq_eq_ok {w : Word} {i : Instr} (h : decode .sq w = .ok i) :
    ∃ q, w = sqWord q ∧ i = q.instr := by
  simp only [decode, decodeSq] at h
  split at h
  · next hw =>
    split at h
    · next q hq =>
      cases h
      refine ⟨q, BitVec.eq_of_toNat_eq ?_, rfl⟩
      simp only [sqWord, code_of_ofCode hq, BitVec.toNat_setWidth]
      omega
    · cases h
  · cases h

/-- Settles O59: a byte that decodes holds the decode word of a row or the code of a SEQ value. -/
theorem encodeDecode : Obligations.EncodeDecode := by
  intro f w i h
  cases f with
  | dw =>
    obtain ⟨d, rfl, hd⟩ := decode_dw_eq_ok h
    exact encode_of_decodeDw hd
  | sq =>
    obtain ⟨q, rfl, rfl⟩ := decode_sq_eq_ok h
    exact encode_instr q

/-! ## From an operation to its word and back -/

theorem decodeDw_idle (low : BitVec 5) : decodeDw (0#1 ++ low) = .ok (.idle low) := by
  decide +revert

/-- R123 to R125: the decode word that an error encoding records is its own. -/
theorem decodeDw_of_errorCause {i : Instr} {e : Machine.Err} {d : DecodeWord}
    (h : Machine.errorCause i = some (e, d)) : decodeDw d = .ok i := by
  cases i <;> cases h
  case errDirNone rest => decide +revert
  case errDirBoth rest => decide +revert
  case errWidthRd mio => decide +revert
  case errWidthWr mio => decide +revert

theorem decode_encode_of_decodeDw {d : DecodeWord} {i : Instr} (h : decodeDw d = .ok i) :
    decode (encode i).1 (encode i).2 = .ok i := by
  rw [encode_of_decodeDw h]
  exact (decode_dwWord d).trans h

/-- Settles O58, by what the operation is: the word of an action is its SEQ code, every other operation
is the row of some decode word. -/
theorem decodeEncode : Obligations.DecodeEncode := by
  intro i _
  cases Machine.opKind i with
  | action q =>
    rw [encode_instr]
    exact decode_sqWord q
  | transfer dir sp w => cases dir <;> cases sp <;> cases w <;> rfl
  | idle low => exact decode_encode_of_decodeDw (decodeDw_idle low)
  | error h => exact decode_encode_of_decodeDw (decodeDw_of_errorCause h)

/-- Settles O56, by a count for each of the 64 decode words. -/
theorem dwTableIsExact : Obligations.DwTableIsExact := ⟨rfl, by decide +kernel⟩

/-- Settles O57, one word after another. -/
theorem sampleWordsDecode : Obligations.SampleWordsDecode :=
  ⟨rfl, rfl, rfl, rfl, rfl, rfl, rfl, rfl⟩

end Sys2Proof

namespace Sys2Proof.Machine

/-! ## The decode word of an active cycle -/

/-- Settles O13: the five levels stand in the decode word in the order of R66, whatever they are. -/
theorem decodeWordBits : Obligations.DecodeWordBits := by
  intro c s2 a
  rw [← beq_iff_eq (a := c.lvl s2 .mio), assembleDw]
  generalize c.lvl s2 .rd = rd, c.lvl s2 .wr = wr, (c.lvl s2 .mio == c.mioMemoryLevel) = mem,
    c.lvl s2 .bhe = bhe, a.getLsbD 0 = a0
  decide +revert

/-- The direction, space and width that the row of a transfer names (30 R68). -/
def cycleOf (i : Instr) : Option (Direction × Space × Width) :=
  ((readOps.lookup i).map (Prod.mk .read)).or ((writeOps.lookup i).map (Prod.mk .write))

theorem cycleOf_transferInstr (dir : Direction) (sp : Space) (w : Width) :
    cycleOf (transferInstr dir sp w) = some (dir, sp, w) := by
  cases dir <;> cases sp <;> cases w <;> rfl

theorem errorCause_transferInstr (dir : Direction) (sp : Space) (w : Width) :
    errorCause (transferInstr dir sp w) = none := by
  cases dir <;> cases sp <;> cases w <;> rfl

theorem eq_transferInstr_of_mem_readOps : ∀ x ∈ readOps, x.1 = transferInstr .read x.2.1 x.2.2 := by
  decide

theorem eq_transferInstr_of_mem_writeOps :
    ∀ x ∈ writeOps, x.1 = transferInstr .write x.2.1 x.2.2 := by
  decide

section RowFits
variable {d : DecodeWord} {r : Except Err (Direction × Space × Width)} {i : Instr}

/-- A fitting row is a given transfer's exactly when the sequential decode gave that transfer. -/
theorem eq_transferInstr_iff (h : rowFits d r i = true) (dir : Direction) (sp : Space) (w : Width) :
    i = transferInstr dir sp w ↔ r = .ok (dir, sp, w) := by
  cases r with
  | error e =>
    have he : errorCause i = some (e, d) := of_decide_eq_true h
    refine iff_of_false ?_ nofun
    rintro rfl
    rw [errorCause_transferInstr] at he
    cases he
  | ok k =>
    obtain ⟨dir', sp', w'⟩ := k
    have hi : i = transferInstr dir' sp' w' := of_decide_eq_true h
    rw [hi]
    refine ⟨fun ht => ?_, fun hk => by cases hk; rfl⟩
    have hc := congrArg cycleOf ht
    rw [cycleOf_transferInstr, cycleOf_transferInstr] at hc
    exact congrArg Except.ok (Option.some.inj hc)

/-- A fitting row is an error row of cause `e` exactly when the sequential decode failed with `e`. -/
theorem errorCause_eq_some_iff (h : rowFits d r i = true) (e : Err) :
    errorCause i = some (e, d) ↔ r = .error e := by
  cases r with
  | error e' =>
    have he : errorCause i = some (e', d) := of_decide_eq_true h
    simp [he]
  | ok k =>
    obtain ⟨dir, sp, w⟩ := k
    have hi : i = transferInstr dir sp w := of_decide_eq_true h
    simp [hi, errorCause_transferInstr]

end RowFits

/-- R68, R126: the decode word selects a transfer's row exactly when the sequential decode gives it. -/
theorem decodeDw_eq_transferInstr_iff (c : Config) (m : Mask) (a : Addr) (dir : Direction)
    (sp : Space) (w : Width) : decodeDw (assembleDw c m a) = .ok (transferInstr dir sp w) ↔
      decodeCycle c m a = .ok (dir, sp, w) := by
  obtain ⟨i, hi⟩ := decodeDw_total (assembleDw c m a)
  rw [hi, Except.ok.injEq]
  exact eq_transferInstr_iff (rowFits_of_decodeDw hi) dir sp w

/-- Settles O14: the row that the decode word selects fits the result of the sequential decode. -/
theorem sequentialDecodeIsTable : Obligations.SequentialDecodeIsTable := by
  intro c s2 a
  refine ⟨fun i sp w hi => ?_, fun i sp w hi => ?_, fun e => ⟨fun he => ?_, ?_⟩⟩
  · obtain rfl : i = transferInstr .read sp w := eq_transferInstr_of_mem_readOps _ hi
    exact decodeDw_eq_transferInstr_iff c s2 a .read sp w
  · obtain rfl : i = transferInstr .write sp w := eq_transferInstr_of_mem_writeOps _ hi
    exact decodeDw_eq_transferInstr_iff c s2 a .write sp w
  · obtain ⟨i, hi⟩ := decodeDw_total (assembleDw c s2 a)
    exact ⟨i, hi, (errorCause_eq_some_iff (rowFits_of_decodeDw hi) e).mpr he⟩
  · rintro ⟨i, hi, he⟩
    exact (errorCause_eq_some_iff (rowFits_of_decodeDw hi) e).mp he

end Sys2Proof.Machine
end

section
/-! The legal values of OUT and TRI, and what each always-driven pin shows (spec/10_state.md R17, R28,
spec/30_encoding.md R70, R71). -/

namespace Sys2Proof

/-! ## The masks pin by pin -/

section Masks
variable {c : Config}

theorem getLsbD_roleMask_iff (rs : List Role) (p : Pin) :
    (c.roleMask rs).getLsbD p.val = true ↔ ∃ r ∈ rs, c.pins.pin r = p := by
  simp only [getLsbD_roleMask, List.any_eq_true, decide_eq_true_eq, Fin.ext_iff]

theorem getLsbD_triDefault_iff (p : Pin) :
    c.triDefault.getLsbD p.val = true ↔ ∀ r ∈ c.alwaysDriven, c.pins.pin r ≠ p := by
  rw [Config.triDefault, BitVec.getLsbD_not, decide_eq_true p.isLt, Bool.true_and,
    Bool.not_eq_true', Bool.eq_false_iff, ne_eq, getLsbD_roleMask_iff]
  simp

theorem getLsbD_data16_iff (p : Pin) :
    c.data16.getLsbD p.val = true ↔ ∃ n : Fin 20, n.val < 16 ∧ c.pins.pin (.ad n) = p := by
  rw [Config.data16, getLsbD_roleMask_iff]
  simp [mem_dataIndex]

theorem getLsbD_triRead_iff (p : Pin) : c.triRead.getLsbD p.val = true ↔
    c.triDefault.getLsbD p.val = true ∧ ∀ n : Fin 20, n.val < 16 → c.pins.pin (.ad n) ≠ p := by
  rw [Config.triRead, BitVec.getLsbD_and, BitVec.getLsbD_not, decide_eq_true p.isLt, Bool.true_and,
    Bool.and_eq_true, Bool.not_eq_true', Bool.eq_false_iff, ne_eq, getLsbD_data16_iff]
  simp

/-- R17: no two always-driven roles share a pin; the one shared pair, WR and LOCK, is not among them. -/
theorem driven_pin_injective (h : c.wf = true) {r q : Role} (hr : r ∈ c.alwaysDriven)
    (hq : q ∈ c.alwaysDriven) (hp : c.pins.pin r = c.pins.pin q) : r = q := by
  have hwr : Role.wr ∉ c.alwaysDriven := fun hd =>
    driven_ne_sampled h hd (List.mem_append_right _ (by decide)) rfl
  rcases pin_injective h (mem_roles_of_driven hr) (mem_roles_of_driven hq) hp with he | he
  · exact he
  · simp only [duplicatePair, Bool.or_eq_true, Bool.and_eq_true, beq_iff_eq] at he
    rcases he with ⟨rfl, -⟩ | ⟨-, rfl⟩
    · exact absurd hr hwr
    · exact absurd hq hwr

end Masks

/-! ## The values of OUT -/

/-- The value of OUT with the always-high pins, CLK and RESET each in or out, and data pins (R70). -/
def Config.outValue (c : Config) (clk reset : Bool) (m : Mask) : Mask :=
  c.ah ||| (if clk then c.bit .clk else 0) ||| (if reset then c.bit .reset else 0) ||| m

/-- An always-driven role that is not always high is low in every value of R70, CLK and RESET apart. -/
theorem lvl_outValue {c : Config} (h : c.wf = true) {r : Role} (hr : r ∈ c.alwaysDriven)
    (hh : r ∉ c.alwaysHigh) (hclk : r ≠ .clk) (hreset : r ≠ .reset) (k l : Bool) {m : Mask}
    (hm : c.lvl m r = false) : c.lvl (c.outValue k l m) r = false := by
  obtain ⟨hsub, hck, hrs⟩ := mem_alwaysDriven h
  have hah : c.lvl c.ah r = false := by
    refine Bool.eq_false_iff.mpr fun hb => ?_
    obtain ⟨q, hq, hp⟩ := (getLsbD_roleMask_iff c.alwaysHigh (c.pins.pin r)).mp hb
    exact hh (driven_pin_injective h (hsub q hq) hr hp ▸ hq)
  have hbit {q : Role} (hq : q ∈ c.alwaysDriven) (hne : r ≠ q) (b : Bool) :
      c.lvl (if b then c.bit q else 0) r = false := by
    cases b with
    | false => exact lvl_zero r
    | true => exact lvl_bit_ne fun hp => hne (driven_pin_injective h hr hq hp.symm)
  simp only [Config.outValue, lvl_or, hah, hbit hck hclk, hbit hrs hreset, hm, Bool.or_false]

end Sys2Proof

namespace Sys2Proof.Machine

/-- R70: OUT of each SEQ value. -/
theorem padsAt_out_cases (c : Config) (d : Data) (q : Seq) : (padsAt c d q).1 = 0 ∨
    ∃ k r m, (m = 0 ∨ m = c.dataMask d) ∧ (padsAt c d q).1 = c.outValue k r m := by
  have hlow : c.clkLow = c.outValue false false 0 := by simp [Config.outValue, Config.clkLow]
  have hhigh : c.clkHigh = c.outValue true false 0 := by simp [Config.outValue, Config.clkHigh]
  cases q with
  | sOff | sRs1 | sRs2 | sRs3 | sErr => exact .inl rfl
  | sRs4H => exact .inr ⟨false, true, 0, .inl rfl, by simp [padsAt, resetLow, Config.outValue]⟩
  | sRs4L | sRs5A =>
    refine .inr ⟨true, true, 0, .inl rfl, ?_⟩
    simp only [padsAt, resetHigh, Config.outValue, if_true]
    ac_rfl
  | sRdHigh =>
    exact .inr ⟨false, false, _, .inr rfl, by simp [padsAt, Config.clkLow, Config.outValue]⟩
  | sRdRel =>
    exact .inr ⟨true, false, _, .inr rfl, by simp [padsAt, Config.clkHigh, Config.outValue]⟩
  | sRs5H | sIHigh | sAHigh | sWrHigh => exact .inr ⟨false, false, 0, .inl rfl, hlow⟩
  | _ => exact .inr ⟨true, false, 0, .inl rfl, hhigh⟩

section Pads
variable {s : State}

/-- In S_ERR too, the pads are those of some SEQ value. -/
theorem MachineInv.exists_padsAt (h : MachineInv s) :
    ∃ q, (s.out, s.tri) = padsAt s.cfg s.data q := by
  by_cases he : s.seq = .sErr
  · obtain ⟨q, -, hp⟩ := h.padsKept he
    exact ⟨q, hp⟩
  · exact ⟨s.seq, h.pads he⟩

theorem MachineInv.out_cases (h : MachineInv s) : s.out = 0 ∨
    ∃ k r m, (m = 0 ∨ m = s.cfg.dataMask s.data) ∧ s.out = s.cfg.outValue k r m := by
  obtain ⟨q, hp⟩ := h.exists_padsAt
  rw [show s.out = (padsAt s.cfg s.data q).1 from congrArg Prod.fst hp]
  exact padsAt_out_cases s.cfg s.data q

theorem MachineInv.tri_cases (h : MachineInv s) :
    s.tri = BitVec.allOnes 160 ∨ s.tri = s.cfg.triDefault ∨ s.tri = s.cfg.triRead := by
  obtain ⟨q, hp⟩ := h.exists_padsAt
  rw [show s.tri = (padsAt s.cfg s.data q).2 from congrArg Prod.snd hp]
  exact padsAt_tri_cases

/-- R28, R192: an always-driven role that the block does not move is held low. -/
theorem MachineInv.pinOut_low (h : MachineInv s) (ht : s.tri ≠ BitVec.allOnes 160) {r : Role}
    (hr : r ∈ s.cfg.alwaysDriven) (hh : r ∉ s.cfg.alwaysHigh) (hclk : r ≠ .clk)
    (hreset : r ≠ .reset) : s.pinOut (s.cfg.pins.pin r) = some false := by
  have hoff : s.seq ≠ .sOff := fun hq =>
    ht ((h.tri_eq (by simp [hq])).trans (by rw [hq]; rfl))
  have hw := h.cfgOk hoff
  have hdef : s.cfg.triDefault.getLsbD (s.cfg.pins.pin r).val ≠ true := fun hb =>
    (getLsbD_triDefault_iff _).mp hb r hr rfl
  have hdriven : ¬ s.tri.getLsbD (s.cfg.pins.pin r).val = true := by
    rcases h.tri_cases with h3 | h3 | h3
    · exact absurd h3 ht
    · rwa [h3]
    · rw [h3]
      exact fun hb => hdef ((getLsbD_triRead_iff _).mp hb).1
  have hlow : s.cfg.lvl s.out r = false := by
    rcases h.out_cases with ho | ⟨k, l, m, hm, ho⟩
    · rw [ho]
      exact lvl_zero r
    · rw [ho]
      refine lvl_outValue hw hr hh hclk hreset k l ?_
      rcases hm with rfl | rfl
      · exact lvl_zero r
      · exact lvl_dataMask_driven hw s.data hr
  rw [State.pinOut, if_neg hdriven]
  exact congrArg some hlow

/-- Settles O43: the masks pin by pin, and the pads that the invariant gives. -/
theorem legalPadValues : Obligations.LegalPadValues := by
  refine ⟨fun c p => ⟨getLsbD_roleMask_iff _ p, getLsbD_triDefault_iff p, getLsbD_triRead_iff p⟩,
    fun s r h ht hr hh hclk hreset => h.pinOut_low ht hr hh hclk hreset,
    fun s h => ⟨?_, h.tri_cases⟩⟩
  exact h.out_cases.imp_right fun ⟨k, r, m, hm, ho⟩ => ⟨k, r, s.data, m, hm, ho⟩

end Pads

end Sys2Proof.Machine
end

section
/-! The laws of the pin codec (spec/40_pin_codec.md R82 to R86): what the decoders read, how an encoded value
stands on the pins, and when decoding and encoding undo each other. -/

namespace Sys2Proof

section Codec
variable {c : Config}

/-! ## Masks pin by pin -/

/-- Two masks with the same pins are equal. -/
theorem mask_eq_of_pins {m k : Mask}
    (h : ∀ p : Pin, m.getLsbD p.val = true ↔ k.getLsbD p.val = true) : m = k :=
  BitVec.eq_of_getLsbD_eq fun i hi => Bool.eq_iff_iff.mpr (h ⟨i, hi⟩)

theorem getLsbD_pinsBitmask_iff (ps : List Pin) (p : Pin) :
    (pinsBitmask ps).getLsbD p.val = true ↔ p ∈ ps := by
  rw [getLsbD_pinsBitmask]
  simp only [List.any_eq_true, decide_eq_true_eq, ← Fin.ext_iff, exists_eq_right]

theorem getLsbD_dataMask_iff (v : Data) (p : Pin) : (c.dataMask v).getLsbD p.val = true ↔
    ∃ n : Fin 20, (n.val < 16 ∧ v.getLsbD n.val = true) ∧ c.pins.pin (.ad n) = p := by
  simp only [Config.dataMask, Config.encodeDataToPins, getLsbD_pinsBitmask_iff, List.mem_map,
    List.mem_filter, mem_dataIndex]

theorem getLsbD_addrMask_iff (a : Addr) (p : Pin) : (c.addrMask a).getLsbD p.val = true ↔
    ∃ n : Fin 20, a.getLsbD n.val = true ∧ c.pins.pin (.ad n) = p := by
  simp only [Config.addrMask, getLsbD_pinsBitmask_iff, List.mem_map, List.mem_filter, mem_adIndex,
    true_and]

theorem getLsbD_ad20_pin (n : Fin 20) : c.ad20.getLsbD (c.pins.pin (.ad n)).val = true :=
  (getLsbD_roleMask_iff _ _).mpr ⟨_, List.mem_map_of_mem (mem_adIndex n), rfl⟩

/-! ## What the decoders read -/

/-- Addresses are equal when the bits of all twenty positions are. -/
theorem addr_eq_of_bits {a b : Addr} (h : ∀ n : Fin 20, a.getLsbD n.val = b.getLsbD n.val) : a = b :=
  BitVec.eq_of_getLsbD_eq fun i hi => h ⟨i, hi⟩

/-- Data are equal when the bits of all positions that carry data are. -/
theorem data_eq_of_bits {v w : Data}
    (h : ∀ n : Fin 20, n.val < 16 → v.getLsbD n.val = w.getLsbD n.val) : v = w :=
  BitVec.eq_of_getLsbD_eq fun i hi => h ⟨i, by omega⟩ hi

/-- R83: the decoded data is the low half of the decoded address. -/
theorem decodeData_eq_setWidth (c : Config) (m : Mask) :
    c.decodeData m = (c.decodeAddress m).setWidth 16 := by
  refine data_eq_of_bits fun n hn => ?_
  rw [getLsbD_decodeData c m n hn, BitVec.getLsbD_setWidth, decide_eq_true hn, Bool.true_and,
    getLsbD_decodeAddress]

/-- R82: only the pins of AD0 to AD19 matter. -/
theorem decodeAddress_congr {m m' : Mask} (h : m' &&& c.ad20 = m &&& c.ad20) :
    c.decodeAddress m' = c.decodeAddress m := by
  refine addr_eq_of_bits fun n => ?_
  have hp := congrArg (·.getLsbD (c.pins.pin (.ad n)).val) h
  simp only [BitVec.getLsbD_and, getLsbD_ad20_pin, Bool.and_true] at hp
  rw [getLsbD_decodeAddress, getLsbD_decodeAddress, Config.lvl, Config.lvl, hp]

/-! ## The data mask -/

/-- R85: a pin shows a bit of `v ||| w` exactly when it shows one of `v` or one of `w`. -/
theorem dataMask_or (v w : Data) : c.dataMask (v ||| w) = c.dataMask v ||| c.dataMask w := by
  refine mask_eq_of_pins fun p => ?_
  simp only [BitVec.getLsbD_or, Bool.or_eq_true, getLsbD_dataMask_iff, and_or_left, or_and_right,
    exists_or]

/-- R86 (c): a data pin reads the level it shows again, so no two roles need distinct pins here. -/
theorem dataMask_decodeData (m : Mask) : c.dataMask (c.decodeData m) = m &&& c.data16 := by
  refine mask_eq_of_pins fun p => ?_
  rw [getLsbD_dataMask_iff, BitVec.getLsbD_and, Bool.and_eq_true, getLsbD_data16_iff]
  constructor
  · rintro ⟨n, ⟨hn, hb⟩, rfl⟩
    exact ⟨(getLsbD_decodeData c m n hn).symm.trans hb, n, hn, rfl⟩
  · rintro ⟨hb, n, hn, rfl⟩
    exact ⟨n, ⟨hn, (getLsbD_decodeData c m n hn).trans hb⟩, rfl⟩

/-! ## Decoding what was encoded -/

/-- On distinct pins, the only address/data role with the pin of ADn is ADn. -/
theorem exists_ad_pin_iff (hinj : ∀ n k, c.pins.pin (.ad n) = c.pins.pin (.ad k) → n = k)
    (P : Fin 20 → Prop) (n : Fin 20) :
    (∃ k, P k ∧ c.pins.pin (.ad k) = c.pins.pin (.ad n)) ↔ P n :=
  ⟨fun ⟨k, hk, hp⟩ => hinj k n hp ▸ hk, fun h => ⟨n, h, rfl⟩⟩

/-- R86 (a): on distinct pins each data role reads its own bit back. -/
theorem decodeData_dataMask (hinj : ∀ n k, c.pins.pin (.ad n) = c.pins.pin (.ad k) → n = k)
    (v : Data) : c.decodeData (c.dataMask v) = v := by
  refine data_eq_of_bits fun n hn => ?_
  rw [getLsbD_decodeData c _ n hn, Bool.eq_iff_iff, Config.lvl, getLsbD_dataMask_iff,
    exists_ad_pin_iff hinj, and_iff_right hn]

/-- R86 (b): on distinct pins each address role reads its own bit back. -/
theorem decodeAddress_addrMask (hinj : ∀ n k, c.pins.pin (.ad n) = c.pins.pin (.ad k) → n = k)
    (a : Addr) : c.decodeAddress (c.addrMask a) = a := by
  refine addr_eq_of_bits fun n => ?_
  rw [getLsbD_decodeAddress, Bool.eq_iff_iff, Config.lvl, getLsbD_addrMask_iff,
    exists_ad_pin_iff hinj]

/-- Roles on one pin read one level. -/
theorem lvl_eq_of_pin_eq (m : Mask) {r q : Role} (hp : c.pins.pin r = c.pins.pin q) :
    c.lvl m r = c.lvl m q := by
  rw [Config.lvl, Config.lvl, hp]

/-- R86: a decoder of the levels of address/data roles, two of them on one pin, reads the same bit for
both; so no encoding brings back the value that has the first one's bit alone. -/
theorem decode_encode_ne_of_pin_eq {w : Nat} {decode : Mask → BitVec w}
    (hdec : ∀ m (n : Fin 20), n.val < w → (decode m).getLsbD n.val = c.lvl m (.ad n))
    {n k : Fin 20} (hne : n ≠ k) (hp : c.pins.pin (.ad n) = c.pins.pin (.ad k)) (hn : n.val < w)
    (hk : k.val < w) (encode : BitVec w → Mask) :
    decode (encode (BitVec.twoPow w n.val)) ≠ BitVec.twoPow w n.val := by
  intro h
  have hl := lvl_eq_of_pin_eq (encode (BitVec.twoPow w n.val)) hp
  rw [← hdec _ n hn, ← hdec _ k hk, h] at hl
  simp [BitVec.getLsbD_twoPow, hn, Fin.val_ne_of_ne hne] at hl

end Codec

end Sys2Proof

namespace Sys2Proof.Machine

/-- Settles O53: both decoders bit by bit, the low half, and the pins that do not matter. -/
theorem decodersReadTheirRoles : Obligations.DecodersReadTheirRoles := fun c m =>
  ⟨getLsbD_decodeAddress c m, getLsbD_decodeData c m, decodeData_eq_setWidth c m,
    fun _ => decodeAddress_congr⟩

/-- Settles O54: the three laws on distinct pins; on a shared pin the value with one bit breaks them. -/
theorem codecRoundTrips : Obligations.CodecRoundTrips := by
  refine fun c => ⟨fun hinj =>
    ⟨decodeData_dataMask hinj, decodeAddress_addrMask hinj, dataMask_decodeData⟩,
    fun n k hne hp => ⟨fun h => ?_, fun hn hk h => ?_⟩⟩
  · exact decode_encode_ne_of_pin_eq (fun m j _ => getLsbD_decodeAddress c m j) hne hp n.isLt k.isLt
      c.addrMask (h _)
  · exact decode_encode_ne_of_pin_eq (getLsbD_decodeData c) hne hp hn hk c.dataMask (h _)

/-- Settles O55: the definition of `dataMask`, its bound and its law for OR. -/
theorem dataMaskLaws : Obligations.DataMaskLaws := fun c v w =>
  ⟨rfl, dataMask_sub_data16 c v, dataMask_or v w⟩

end Sys2Proof.Machine
end

section
/-! The pads at the adapter (spec/41_adapter_ops.md): what the first pad event of an operation can end it
with (R96, R97), what a Sample shows (R92) and what S_IDLE does with one (spec/43_bus_cycle_engine.md R113,
R114), and the adapter calls that realise the events (R90, R93 to R95). -/

namespace Sys2Proof

/-- A mask is not empty exactly when some pin is in it. -/
theorem mask_ne_zero_iff {m : Mask} : m ≠ 0 ↔ ∃ p : Pin, m.getLsbD p.val = true := by
  constructor
  · intro h
    by_contra hp
    exact h (mask_eq_of_pins fun p => by simpa using fun hb => hp ⟨p, hb⟩)
  · rintro ⟨p, hp⟩ rfl
    simp at hp

theorem getLsbD_compl (m : Mask) (p : Pin) : (~~~ m).getLsbD p.val = !m.getLsbD p.val := by
  rw [BitVec.getLsbD_not, decide_eq_true p.isLt, Bool.true_and]

/-- A pin of `m` is in `k` when no pin of `m` is outside `k`. -/
theorem getLsbD_of_diff_eq_zero {m k : Mask} (h : m &&& ~~~ k = 0) {p : Pin}
    (hp : m.getLsbD p.val = true) : k.getLsbD p.val = true := by
  by_contra hk
  rw [Bool.not_eq_true] at hk
  exact mask_ne_zero_iff.mpr ⟨p, by rw [BitVec.getLsbD_and, getLsbD_compl, hp, hk]; rfl⟩ h

end Sys2Proof

namespace Sys2Proof.Machine

/-! ## The first pad event of an operation -/

/-- The action `r` from `s` begins with a pad event at which the block has the pads `p`: when that event
fails (R97) or is contended (R96), the action is over with it. -/
structure Res.Opens {α : Type} (r : Res α) (s : State) (p : Mask × Mask) : Prop where
  ends_of_fails : (s.envAt 0).fails = true → r = .ends (raise .adapterIo .none s.tookEnv)
  stops_of_contends : (s.envAt 0).fails = false → (s.envAt 0).contends p.1 p.2 = true →
    r = .stops .contention

theorem Res.Opens.andThen {α β : Type} {r : Res α} {s : State} {p : Mask × Mask}
    (h : r.Opens s p) (g : α → State → Res β) : (r.andThen g).Opens s p where
  ends_of_fails hf := by rw [h.ends_of_fails hf, andThen_ends]
  stops_of_contends hf hc := by rw [h.stops_of_contends hf hc, andThen_stops]

theorem padEvent_opens (eff : State → State) (s : State) :
    (padEvent eff s).Opens s ((eff s.tookEnv).out, (eff s.tookEnv).tri) where
  ends_of_fails := padEvent_fails
  stops_of_contends hf hc := by simp [padEvent, hf, hc]

theorem drive_opens (out tri : Mask) (s : State) : (drive out tri s).Opens s (out, tri) :=
  padEvent_opens _ s

theorem sample_opens (s : State) : (sample s).Opens s (s.out, s.tri) :=
  (padEvent_opens (State.padSample s.sampleNow) s).andThen _

theorem tickOpen_opens (s : State) : (tickOpen s).Opens s (s.cfg.clkHigh, s.tri) :=
  (drive_opens _ _ s).andThen _

/-- When the action and `firstPad` test one guard, the pads are those of the branch with a pad event. -/
theorem Res.Opens.of_guard {b : Bool} {r r' : Res Unit} {s : State} {p p' : Mask × Mask}
    (h : (if b then none else some p') = some p) (hr : r'.Opens s p') :
    (if b then r else r').Opens s p := by
  cases b with
  | true => cases h
  | false => cases h; exact hr

theorem firstPad_transferInstr (dir : Direction) (sp : Space) (w : Width) (s : State) :
    firstPad (transferInstr dir sp w) s = some (s.cfg.clkHigh, s.tri) := by
  cases dir <;> cases sp <;> cases w <;> rfl

theorem firstPad_of_errorCause {i : Instr} {e : Err} {d : DecodeWord}
    (h : errorCause i = some (e, d)) (s : State) : firstPad i s = some (s.cfg.clkHigh, s.tri) := by
  cases i with
  | errDirNone | errDirBoth | errWidthRd | errWidthWr => rfl
  | _ => cases h

/-- The action of a SEQ value that has a first pad event opens with it. -/
theorem exec_seq_opens {q : Seq} {s : State} {p : Mask × Mask} (h : firstPad q.instr s = some p) :
    ∃ r : Res Unit, exec q.instr s = r.outcome ∧ r.Opens s p := by
  cases q with
  | sOff | sStopped | sErr => cases h
  | sRs1 =>
    cases h
    exact ⟨_, rfl, (padEvent_opens State.padInit s).andThen _⟩
  | sRs2 =>
    cases h
    exact ⟨_, rfl, (padEvent_opens (State.padPower _ _ _) s).andThen _⟩
  | sIdle => exact ⟨idleAction s, rfl, .of_guard h ((tickOpen_opens s).andThen _)⟩
  | sRdReq => exact ⟨rdReq s, rfl, .of_guard h ((drive_opens _ _ s).andThen _)⟩
  | sWrCap => exact ⟨wrCap s, rfl, .of_guard h ((sample_opens s).andThen _)⟩
  | sALow =>
    cases h
    exact ⟨_, rfl, ((drive_opens _ _ s).andThen _).andThen _⟩
  | _ =>
    cases h
    exact ⟨_, rfl, (drive_opens _ _ s).andThen _⟩

/-- Every operation that has a first pad event opens with it. -/
theorem exec_opens {i : Instr} {s : State} {p : Mask × Mask} (h : firstPad i s = some p) :
    ∃ r : Res Unit, exec i s = r.outcome ∧ r.Opens s p := by
  cases opKind i with
  | action q => exact exec_seq_opens h
  | transfer dir sp w =>
    obtain rfl := Option.some.inj ((firstPad_transferInstr dir sp w s).symm.trans h)
    exact ⟨_, exec_transferInstr dir sp w s, ((tickOpen_opens s).andThen _).andThen _⟩
  | idle low =>
    cases h
    exact ⟨_, rfl, (tickOpen_opens s).andThen _⟩
  | error he =>
    obtain rfl := Option.some.inj ((firstPad_of_errorCause he s).symm.trans h)
    rw [exec_of_errorCause he]
    exact ⟨_, rfl, (tickOpen_opens s).andThen _⟩

/-- Settles O30: the operation is over with its first pad event. -/
theorem adapterFailureAborts : Obligations.AdapterFailureAborts := fun i s p hp hf => by
  obtain ⟨r, hr, ho⟩ := exec_opens hp
  rw [hr, ho.ends_of_fails hf]
  rfl

/-- R96: contention, pin by pin. -/
theorem contends_iff (r : PadEnv) (out tri : Mask) : r.contends out tri = true ↔
    ∃ p : Pin, r.drives.getLsbD p.val = true ∧ tri.getLsbD p.val = false ∧
      r.levels.getLsbD p.val ≠ out.getLsbD p.val := by
  have hpin (p : Pin) : (r.drives &&& ~~~ tri &&& (r.levels ^^^ out)).getLsbD p.val = true ↔
      r.drives.getLsbD p.val = true ∧ tri.getLsbD p.val = false ∧
        r.levels.getLsbD p.val ≠ out.getLsbD p.val := by
    simp [and_assoc]
  simp only [PadEnv.contends, Bool.and_eq_true, bne_iff_ne, mask_ne_zero_iff, hpin]
  exact and_iff_right_of_imp fun ⟨p, hp, _⟩ => ⟨p, hp⟩

/-- Settles O32: the fault is raised at the first pad event of every operation. -/
theorem contentionIsFault : Obligations.ContentionIsFault := by
  refine ⟨fun i s p hp hf hc => ?_, contends_iff⟩
  obtain ⟨r, hr, ho⟩ := exec_opens hp
  rw [hr, ho.stops_of_contends hf hc, outcome_stops]

/-! ## What a Sample shows, and the start of a tick -/

/-- R92: a released pin shows the environment's level, a driven one the block's own. -/
theorem getLsbD_sampled (out tri e : Mask) (p : Pin) : (sampled out tri e).getLsbD p.val =
    if tri.getLsbD p.val then e.getLsbD p.val else out.getLsbD p.val := by
  rw [sampled, BitVec.getLsbD_or, BitVec.getLsbD_and, BitVec.getLsbD_and, getLsbD_compl]
  cases tri.getLsbD p.val <;> simp

theorem stopTest_eq_false {s : State} (hs : s.stopReq = false)
    (hl : ∀ n, s.tickLimit = some n → s.ticks < n) : s.stopTest = false := by
  rw [State.stopTest, hs, Bool.false_or]
  cases h : s.tickLimit with
  | none => rfl
  | some n => exact decide_eq_false (Nat.not_le.mpr (hl n h))

/-- Settles O9: a tick opens, and the level of ALE in its Sample decides how it goes on. -/
theorem sIdleSamplesAndLatches : Obligations.SIdleSamplesAndLatches := by
  refine ⟨getLsbD_sampled, fun s hs hl ⟨h0, h1, _⟩ => ?_⟩
  have hact : exec .sIdle s = (idleAction s).outcome := rfl
  rw [hact, idleAction, stopTest_eq_false hs hl, if_neg Bool.false_ne_true, tickOpen_full h0 h1,
    andThen_goes, List.append_assoc]
  refine ⟨fun ha => ?_, fun ha => ?_⟩
  · have hale := beq_iff_eq.mpr ha
    exact (congrArg Res.outcome (if_pos hale)).trans rfl
  · have hale := mt beq_iff_eq.mp ha
    exact (congrArg Res.outcome (if_neg hale)).trans rfl

/-! ## The adapter calls of an event -/

section Calls
variable {q : Seq} {prev old out tri : Mask} {calls : List AdapterCall}

/-- The adapter's pair after a first part of the calls of a Drive: the pair before it, the pair of the
Drive, or, between two calls, the new outputs when drivers are enabled and the new tri-state when not. -/
theorem driveCalls_prefix (hq : q = .sRdReq → prev = out) (h : calls <+: driveCalls q old out tri) :
    calls.foldl callPads (prev, old) = (prev, old) ∨ calls.foldl callPads (prev, old) = (out, tri) ∨
    old &&& ~~~ tri ≠ 0 ∧ calls.foldl callPads (prev, old) = (out, old) ∨
    old &&& ~~~ tri = 0 ∧ calls.foldl callPads (prev, old) = (prev, tri) := by
  rw [← List.mem_inits, driveCalls] at h
  split_ifs at h with hr ht he <;> simp only [List.inits, List.map, List.mem_cons, List.not_mem_nil,
    or_false] at h
  · obtain rfl := hq hr
    rcases h with rfl | rfl
    · exact .inl rfl
    · exact .inr (.inl rfl)
  · subst ht
    rcases h with rfl | rfl
    · exact .inl rfl
    · exact .inr (.inl rfl)
  · rcases h with rfl | rfl | rfl
    · exact .inl rfl
    · exact .inr (.inr (.inl ⟨he, rfl⟩))
    · exact .inr (.inl rfl)
  · rcases h with rfl | rfl | rfl
    · exact .inl rfl
    · exact .inr (.inr (.inr ⟨not_not.mp he, rfl⟩))
    · exact .inr (.inl rfl)

theorem driveCalls_foldl (hq : q = .sRdReq → prev = out) :
    (driveCalls q old out tri).foldl callPads (prev, old) = (out, tri) := by
  rw [driveCalls]
  split_ifs with hr ht he
  · rw [hq hr]; rfl
  · rw [ht]; rfl
  · rfl
  · rfl

/-- R94: a pin becomes driven at its new level only. -/
theorem driveCalls_enables (hq : q = .sRdReq → prev = out)
    (h : calls <+: driveCalls q old out tri) {p : Pin} (ho : old.getLsbD p.val = true)
    (hm : (calls.foldl callPads (prev, old)).2.getLsbD p.val = false) :
    (calls.foldl callPads (prev, old)).1.getLsbD p.val = out.getLsbD p.val := by
  rcases driveCalls_prefix hq h with hs | hs | ⟨-, hs⟩ | ⟨hd, hs⟩
  · rw [hs] at hm
    exact absurd (ho.symm.trans hm) (by decide)
  · rw [hs]
  · rw [hs]
  · rw [hs] at hm
    exact absurd ((getLsbD_of_diff_eq_zero hd ho).symm.trans hm) (by decide)

/-- R94: when no driver is enabled, a pin to be released shows its old level as long as it is driven. -/
theorem driveCalls_releases (hq : q = .sRdReq → prev = out)
    (h : calls <+: driveCalls q old out tri) (hd : old &&& ~~~ tri = 0) {p : Pin}
    (ht : tri.getLsbD p.val = true)
    (hm : (calls.foldl callPads (prev, old)).2.getLsbD p.val = false) :
    (calls.foldl callPads (prev, old)).1.getLsbD p.val = prev.getLsbD p.val := by
  rcases driveCalls_prefix hq h with hs | hs | ⟨he, -⟩ | ⟨-, hs⟩
  · rw [hs]
  · rw [hs] at hm
    exact absurd (ht.symm.trans hm) (by decide)
  · exact absurd hd he
  · rw [hs]

end Calls

/-- R90, R93, R95: what the calls of an event leave at the adapter is what the history gives. -/
theorem eventCalls_foldl {q : Seq} {prev old : Mask} {e : Event}
    (hq : q = .sRdReq → ∀ out tri, e = .drive out tri → prev = out) :
    (eventCalls q old e).foldl callPads (prev, old) = padsAfter (prev, old) [e] := by
  cases e with
  | drive out tri => exact driveCalls_foldl fun h => hq h out tri rfl
  | _ => rfl

/-- Settles O60: the pair and the order of a Drive's calls, its single calls, and the other events. -/
theorem adapterCallsRealiseDrive : Obligations.AdapterCallsRealiseDrive := by
  refine ⟨fun q old out tri prev hq => ⟨driveCalls_foldl hq, fun calls rest h p => ?_⟩,
    fun q out tri => ⟨rfl, fun hq => ?_⟩, fun _ _ _ _ _ _ => ⟨rfl, rfl, rfl⟩,
    fun _ _ _ _ => eventCalls_foldl⟩
  · have hpre : calls <+: driveCalls q old out tri := ⟨rest, h.symm⟩
    exact ⟨driveCalls_enables hq hpre, fun hd => driveCalls_releases hq hpre hd⟩
  · rw [driveCalls, if_neg hq, if_pos rfl]

end Sys2Proof.Machine
end

section
/-! The Reset Sequencer (spec/42_reset_sequencer.md R100 to R110): what each of its states answers,
its independence of the environment, and the whole sequence from S_OFF to the hand-over. -/

namespace Sys2Proof.Machine

/-! ## The states of the sequencer one by one -/

/-- Settles O1: S_OFF tests START, then the configuration. -/
theorem sOffWaitsForStart : Obligations.SOffWaitsForStart := fun s => by
  refine ⟨exec_sOff_stays, fun hs hc => (exec_sOff_true hs).trans (if_pos hc), fun hs => ?_⟩
  rw [exec_sOff_true hs]
  cases s.cfg.wf <;> simp

theorem init_full {s : State} (h : s.padOk 0 0 (BitVec.allOnes 160)) :
    init s = .goes () s.tookEnv.padInit := padEvent_goes h

theorem power_full {s : State} (h : s.padOk 0 s.out s.tri) (level : SupplyLevel) (vcc gnd : Mask) :
    power level vcc gnd s = .goes () (s.tookEnv.padPower level vcc gnd) := padEvent_goes h

/-- A state of the sequencer that is one Drive. -/
theorem driveThen_full {s : State} {out : Mask} (h : s.padOk 0 out s.tri) (q : Seq) :
    driveThen out q s = .goes () (s.droveTo out s.tri q) := by
  rw [driveThen, drive_full h]; rfl

/-- Settles O2: Init, then one Drive under TRI_DEFAULT. -/
theorem sRs1InitialisesPads : Obligations.SRs1InitialisesPads := fun s ⟨h0, h1, _⟩ => by
  have hdrive : s.tookEnv.padInit.padOk 0 0 s.cfg.triDefault := padOk_tookEnv.mpr h1
  rw [exec, execSRs1, init_full h0, andThen_goes, padInit_cfg, tookEnv_cfg, drive_full hdrive]
  simp [State.afterPads]

/-- Settles O3: one Power. -/
theorem sRs2EnablesSupply : Obligations.SRs2EnablesSupply := fun s ⟨h, _⟩ => by
  rw [exec, execSRs2, power_full h]; rfl

/-- Settles O4: each of the five states is `driveThen`. -/
theorem sequencerDrives : Obligations.SequencerDrives := fun _ =>
  ⟨fun h => ⟨congrArg Res.outcome (driveThen_full h _),
    congrArg Res.outcome (driveThen_full h _), congrArg Res.outcome (driveThen_full h _)⟩,
  fun h => congrArg Res.outcome (driveThen_full h _),
  fun h => congrArg Res.outcome (driveThen_full h _)⟩

/-- Settles O5: one Drive with RESET and the clock high, then RCNT. -/
theorem resetPeriodsCounted : Obligations.ResetPeriodsCounted := fun s h => by
  have hdrive := drive_full h
  rw [resetHigh] at hdrive
  rw [exec, exec, execSRs4A, execSRs4H, hdrive]
  exact ⟨rfl, rfl⟩

/-! ## Open loop -/

/-- The environment has no failing pad event (41_adapter_ops.md R97). -/
def State.NeverFails (s : State) : Prop := ∀ k, (s.envAt k).fails = false

/-- A completed step whose first pad event does not fail met that event's premise. -/
theorem Res.Opens.padOk {r : Res Unit} {s t : State} {p : Mask × Mask} (h : r.Opens s p)
    (hf : (s.envAt 0).fails = false) (ht : r.outcome = .next t) : s.padOk 0 p.1 p.2 := by
  refine ⟨hf, Bool.eq_false_iff.mpr fun hc => ?_⟩
  rw [h.stops_of_contends hf hc] at ht
  cases ht

theorem padOk_of_exec_next {i : Instr} {s t : State} {p : Mask × Mask} (hp : firstPad i s = some p)
    (hf : s.NeverFails) (ht : exec i s = .next t) : s.padOk 0 p.1 p.2 := by
  obtain ⟨r, hr, ho⟩ := exec_opens hp
  exact ho.padOk (hf 0) (hr ▸ ht)

/-- S_RS1 completes only when its second pad event, too, is uncontended. -/
theorem sRs1_padsOk {s t : State} (hf : s.NeverFails) (ht : exec .sRs1 s = .next t) :
    s.padsOk 0 [(0, BitVec.allOnes 160), (0, s.cfg.triDefault)] := by
  have h0 : s.padOk 0 0 (BitVec.allOnes 160) := 
    padOk_of_exec_next (p := (0, BitVec.allOnes 160)) rfl hf ht
  rw [exec, execSRs1, init_full h0, andThen_goes] at ht
  have hf1 : (s.tookEnv.padInit.envAt 0).fails = false :=
    (congrArg PadEnv.fails (tookEnv_envAt s 0)).trans (hf 1)
  have h1 := ((drive_opens 0 s.cfg.triDefault s.tookEnv.padInit).andThen _).padOk hf1 ht
  exact ⟨h0, padOk_tookEnv.mp h1, trivial⟩

/-- R110 of one operation: two environments that let it complete lead to the same state. -/
def OpenLoop (i : Instr) : Prop :=
  ∀ (s : State) (e : List PadEnv) (n : Nat) (t u : State),
    s.NeverFails → State.NeverFails { s with env := e, draws := n } →
    exec i s = .next t → exec i { s with env := e, draws := n } = .next u →
    { u with env := [], draws := 0 } = { t with env := [], draws := 0 }

/-- An operation whose answer `f`, where it completes, does not depend on the environment. -/
theorem openLoop_of_next {i : Instr} {f : State → State}
    (hf : ∀ s t, s.NeverFails → exec i s = .next t → exec i s = .next (f s))
    (he : ∀ (s : State) (e : List PadEnv) (n : Nat),
      { f { s with env := e, draws := n } with env := [], draws := 0 } =
        { f s with env := [], draws := 0 }) : OpenLoop i := by
  intro s e n t u hs hs' ht hu
  obtain rfl := Host.Outcome.next.inj (ht.symm.trans (hf s t hs ht))
  obtain rfl := Host.Outcome.next.inj (hu.symm.trans (hf _ u hs' hu))
  exact he s e n

/-- The same for an operation with one pad event, at which the block has the pads `p`. -/
theorem openLoop_of_firstPad {i : Instr} {p : State → Mask × Mask} {f : State → State}
    (hp : ∀ s, firstPad i s = some (p s))
    (hf : ∀ s, s.padOk 0 (p s).1 (p s).2 → exec i s = .next (f s))
    (he : ∀ (s : State) (e : List PadEnv) (n : Nat),
      { f { s with env := e, draws := n } with env := [], draws := 0 } =
        { f s with env := [], draws := 0 }) : OpenLoop i :=
  openLoop_of_next (fun s _ hs ht => hf s (padOk_of_exec_next (hp s) hs ht)) he

theorem openLoop_sOff : OpenLoop .sOff := by
  refine openLoop_of_next (f := fun s => { s with seq := if s.start then .sRs1 else s.seq })
    (fun s t _ ht => ?_) fun _ _ _ => rfl
  obtain ⟨hoff, hon, hrefused⟩ := sOffWaitsForStart s
  by_cases hs : s.start = true
  · rw [if_pos hs]
    cases hc : s.cfg.wf with
    | true => exact hon hs hc
    | false => rw [(hrefused hs).mpr hc] at ht; cases ht
  · rw [if_neg hs]
    exact hoff (Bool.eq_false_iff.mpr hs)

/-- Settles O7: each operation has one answer where it completes, none of which reads the
environment. -/
theorem resetSequencerOpenLoop : Obligations.ResetSequencerOpenLoop := by
  have hall : ∀ i ∈ sequencerOps, OpenLoop i := by
    simp only [sequencerOps, List.forall_mem_cons]
    refine ⟨openLoop_sOff, ?sRs1, ?sRs2, ?sRs3, ?sRs4A, ?sRs4L, ?sRs4H, ?sRs5A, ?sRs5L, ?sRs5H,
      nofun⟩
    case sRs1 =>
      exact openLoop_of_next (fun s _ hs ht => sRs1InitialisesPads s (sRs1_padsOk hs ht))
        fun _ _ _ => rfl
    case sRs2 =>
      exact openLoop_of_firstPad (fun _ => rfl) (fun s h => sRs2EnablesSupply s ⟨h, trivial⟩)
        fun _ _ _ => rfl
    case sRs3 =>
      exact openLoop_of_firstPad (fun _ => rfl) (fun s h => ((sequencerDrives s).1 h).1)
        fun _ _ _ => rfl
    case sRs4A =>
      exact openLoop_of_firstPad (fun _ => rfl) (fun s h => (resetPeriodsCounted s h).1)
        fun _ _ _ => rfl
    case sRs4L =>
      exact openLoop_of_firstPad (fun _ => rfl) (fun s h => (sequencerDrives s).2.1 h)
        fun _ _ _ => rfl
    case sRs4H =>
      exact openLoop_of_firstPad (fun _ => rfl) (fun s h => (resetPeriodsCounted s h).2)
        fun _ _ _ => rfl
    case sRs5A =>
      exact openLoop_of_firstPad (fun _ => rfl) (fun s h => ((sequencerDrives s).1 h).2.1)
        fun _ _ _ => rfl
    case sRs5L =>
      exact openLoop_of_firstPad (fun _ => rfl) (fun s h => (sequencerDrives s).2.2 h)
        fun _ _ _ => rfl
    case sRs5H =>
      exact openLoop_of_firstPad (fun _ => rfl) (fun s h => ((sequencerDrives s).1 h).2.2)
        fun _ _ _ => rfl
  exact hall

/-! ## The whole sequence -/

/-- At the next `n` pad events nothing fails and the processor drives no always-driven pin. -/
def State.Undisturbed (s : State) (n : Nat) : Prop :=
  ∀ k, k < n → (s.envAt k).fails = false ∧ (s.envAt k).drives &&& ~~~ s.cfg.triDefault = 0

/-- A processor that drives only pins that the block releases contends with nothing. -/
theorem State.Undisturbed.padOk {s : State} {n k : Nat} (h : s.Undisturbed n) (hk : k < n)
    (out : Mask) : s.padOk k out s.cfg.triDefault := by
  obtain ⟨hf, hd⟩ := h k hk
  exact ⟨hf, by simp [PadEnv.contends, hd]⟩

/-- The same while the block releases every pin. -/
theorem State.Undisturbed.padOk_released {s : State} {n k : Nat} (h : s.Undisturbed n) (hk : k < n)
    (out : Mask) : s.padOk k out (BitVec.allOnes 160) :=
  ⟨(h k hk).1, by simp [PadEnv.contends]⟩

/-- `n` steps of the machine lead from `s` to `t`. -/
def Leads (n : Nat) (s t : State) : Prop :=
  ∀ m, Host.Core.run core (m + n) s = Host.Core.run core m t

theorem Leads.trans {n k : Nat} {s t u : State} (h : Leads n s t) (h' : Leads k t u) :
    Leads (n + k) s u := fun m => by
  rw [Nat.add_comm n k, ← Nat.add_assoc, h (m + k), h' m]

/-- A step outside the engine, without a host act, is the action of SEQ in either unit (R13). -/
theorem leads_of_exec {s t : State} {q : Seq} (hh : s.host = []) (hq : s.seq = q)
    (hi : q ≠ .sIdle) (h : exec q.instr s = .next t) : Leads 1 s t := by
  subst hq
  exact run_succ (M := core)
    ((step_of_no_host hh).trans ((runFetched_seq fun hu => hi hu.2.1).trans h))

/-- The state of a reset sequence that began in `s`, once the supply is on: `n` pad events were
taken and the events `es` emitted, SEQ is `q`, OUT is `out`, RCNT is `r`. -/
def State.resetAt (s : State) (n : Nat) (q : Seq) (out : Mask) (r : Nat)
    (es : List Event) : State :=
  { s.afterPads n with
    seq := q, out := out, tri := s.cfg.triDefault
    vlevelR := s.cfg.vlevel, vccR := s.cfg.vccMask, gndR := s.cfg.gndMask, supplyEn := true
    rcnt := r, ticks := 0, err := .none, errInfo := .none
    events := s.events ++ es }

/-- One Drive of the sequence. -/
theorem resetAt_droveTo (s : State) (n : Nat) (q q' : Seq) (out out' : Mask) (r r' : Nat)
    (es : List Event) :
    { (s.resetAt n q out r es).droveTo out' s.cfg.triDefault q' with rcnt := r' } =
      s.resetAt (n + 1) q' out' r' (es ++ [.drive out' s.cfg.triDefault]) := by
  simp [State.droveTo, State.resetAt, State.afterPads, Nat.add_assoc]

/-- The state after S_RS1 of a sequence that began in `s`. -/
def State.initialised (s : State) : State :=
  { s.afterPads 2 with
    seq := .sRs2, out := 0, tri := s.cfg.triDefault, supplyEn := false
    rcnt := 0, ticks := 0, err := .none, errInfo := .none
    events := s.events ++ [.init, .drive 0 s.cfg.triDefault] }

/-- The state after S_RS2 of a sequence that began in `s`: the supply is on. -/
def State.powered (s : State) : State :=
  s.resetAt 3 .sRs3 0 0
    [.init, .drive 0 s.cfg.triDefault, .power s.cfg.vlevel s.cfg.vccMask s.cfg.gndMask]

/-- What S_RS2 answers in the initialised state. -/
theorem initialised_powered (s : State) :
    { s.initialised.afterPads 1 with
      vlevelR := s.cfg.vlevel, vccR := s.cfg.vccMask, gndR := s.cfg.gndMask, supplyEn := true
      events := s.initialised.events ++ [.power s.cfg.vlevel s.cfg.vccMask s.cfg.gndMask]
      seq := .sRs3 } = s.powered := by
  simp [State.initialised, State.powered, State.resetAt, State.afterPads, Nat.add_assoc]

/-- The events up to the first reset period (R101 to R104). -/
def resetOpening (c : Config) : List Event :=
  [.init, .drive 0 c.triDefault, .power c.vlevel c.vccMask c.gndMask, .drive c.clkHigh c.triDefault,
    .drive (resetHigh c) c.triDefault]

/-- The events of `n` reset periods (R105, R106). -/
def resetPeriods (c : Config) (n : Nat) : List Event :=
  (List.replicate n
    [Event.drive (resetLow c) c.triDefault, Event.drive (resetHigh c) c.triDefault]).flatten

theorem resetPeriods_succ (c : Config) (n : Nat) : resetPeriods c (n + 1) =
    resetPeriods c n ++ [.drive (resetLow c) c.triDefault] ++
      [.drive (resetHigh c) c.triDefault] := by
  simp [resetPeriods, List.replicate_succ']

/-- The release follows the periods (R107 to R109). -/
theorem resetEvents_eq (c : Config) (n : Nat) : resetEvents c n =
    resetOpening c ++ resetPeriods c n ++ [.drive c.clkHigh c.triDefault] ++
      [.drive c.clkLow c.triDefault] ++ [.drive c.clkHigh c.triDefault] := by
  simp [resetEvents, resetOpening, resetPeriods]

/-- The state after `k` reset periods: back in S_RS4L, or released after RESET_CYCLES of them. -/
def State.afterPeriods (s : State) (k : Nat) : State :=
  s.resetAt (5 + 2 * k) (if s.cfg.resetCycles ≤ k then .sRs5A else .sRs4L) (resetHigh s.cfg) k
    (resetOpening s.cfg ++ resetPeriods s.cfg k)

section Sequence
variable {s : State} {N n r r' : Nat} {q q' : Seq} {out out' : Mask} {es : List Event}

/-- The premise of the next Drive of the sequence. -/
theorem State.Undisturbed.padOk_resetAt (h : s.Undisturbed N) (hn : n < N) :
    (s.resetAt n q out r es).padOk 0 out' s.cfg.triDefault := by
  have he : (s.resetAt n q out r es).envAt 0 = s.envAt n := afterPads_envAt s n 0
  rw [State.padOk, he]
  exact h.padOk hn out'

/-- One more step of the sequence, a Drive of `out'`. -/
theorem Leads.drives (h : Leads n s (s.resetAt n q out r es)) (hh : s.host = [])
    (he : s.Undisturbed N) (hn : n < N) (hq : q ≠ .sIdle)
    (hx : (s.resetAt n q out r es).padOk 0 out' s.cfg.triDefault →
      exec q.instr (s.resetAt n q out r es) =
        .next { (s.resetAt n q out r es).droveTo out' s.cfg.triDefault q' with rcnt := r' }) :
    Leads (n + 1) s (s.resetAt (n + 1) q' out' r' (es ++ [.drive out' s.cfg.triDefault])) := by
  rw [← resetAt_droveTo s n q q' out out' r r' es]
  exact h.trans (leads_of_exec hh rfl hq (hx (he.padOk_resetAt hn)))

/-- The premise of S_RS2's Power. -/
theorem State.Undisturbed.padOk_initialised (h : s.Undisturbed N) (hN : 3 ≤ N) :
    s.initialised.padOk 0 0 s.cfg.triDefault := by
  have he : s.initialised.envAt 0 = s.envAt 2 := afterPads_envAt s 2 0
  rw [State.padOk, he]
  exact h.padOk hN 0

/-- R100 to R102: from S_OFF to the enabled supply. -/
theorem powerUp_leads (hq : s.seq = .sOff) (hs : s.start = true) (hc : s.cfg.wf = true)
    (hh : s.host = []) (he : s.Undisturbed N) (hN : 3 ≤ N) :
    Leads 3 s s.powered := by
  have hstart := (sOffWaitsForStart s).2.1 hs hc
  have hinit := sRs1InitialisesPads { s with seq := .sRs1 }
    ⟨he.padOk_released (by omega) 0, he.padOk (k := 1) (by omega) 0, trivial⟩
  have hpower := sRs2EnablesSupply s.initialised ⟨he.padOk_initialised hN, trivial⟩
  have h := ((leads_of_exec hh hq nofun hstart).trans (leads_of_exec hh rfl nofun hinit)).trans
    (leads_of_exec hh rfl nofun hpower)
  rw [← initialised_powered]
  exact h

/-- R103 to R106: `k` reset periods, as long as RCNT has not reached RESET_CYCLES before. -/
theorem periods_lead (h : Leads 3 s s.powered) (hc : s.cfg.wf = true) (hh : s.host = [])
    (he : s.Undisturbed N) {k : Nat} (hk : k ≤ s.cfg.resetCycles) (hN : 5 + 2 * k ≤ N) :
    Leads (5 + 2 * k) s (s.afterPeriods k) := by
  induction k with
  | zero =>
    have hseq : ¬ s.cfg.resetCycles ≤ 0 := by have := resetCycles_ge hc; omega
    rw [State.powered] at h
    rw [State.afterPeriods, if_neg hseq]
    have h3 := h.drives hh he (by omega) nofun fun hp => ((sequencerDrives _).1 hp).1
    exact h3.drives hh he (by omega) nofun fun hp => (resetPeriodsCounted _ hp).1
  | succ k ih =>
    have h4 := ih (by omega) (by omega)
    rw [State.afterPeriods, if_neg (Nat.not_le.mpr hk)] at h4
    rw [State.afterPeriods, resetPeriods_succ, ← List.append_assoc, ← List.append_assoc]
    have h5 := h4.drives hh he (by omega) nofun fun hp => (sequencerDrives _).2.1 hp
    exact h5.drives hh he (by omega) nofun fun hp => (resetPeriodsCounted _ hp).2

/-- R107 to R109: RESET is released, one full period, and the hand-over. -/
theorem release_leads
    (h : Leads (5 + 2 * s.cfg.resetCycles) s (s.afterPeriods s.cfg.resetCycles))
    (hh : s.host = []) (he : s.Undisturbed (8 + 2 * s.cfg.resetCycles)) :
    Leads (8 + 2 * s.cfg.resetCycles) s
      (s.resetAt (8 + 2 * s.cfg.resetCycles) .sIdle s.cfg.clkHigh s.cfg.resetCycles
        (resetEvents s.cfg s.cfg.resetCycles)) := by
  rw [State.afterPeriods, if_pos (Nat.le_refl _)] at h
  have h5 := h.drives hh he (by omega) nofun fun hp => ((sequencerDrives _).1 hp).2.1
  have h6 := h5.drives hh he (by omega) nofun fun hp => (sequencerDrives _).2.2 hp
  have h7 := h6.drives hh he (by omega) nofun fun hp => ((sequencerDrives _).1 hp).2.2
  have hn : 8 + 2 * s.cfg.resetCycles = 5 + 2 * s.cfg.resetCycles + 1 + 1 + 1 := by omega
  rw [resetEvents_eq, hn]
  exact h7

end Sequence

/-- Settles O6: power-up, the reset periods by induction on their number, and the release. -/
theorem resetSequenceTrace : Obligations.ResetSequenceTrace := by
  intro s hq hs hc hh he
  have hpower := powerUp_leads hq hs hc hh he (by omega)
  have hperiods := periods_lead hpower hc hh he (Nat.le_refl _) (by omega)
  have hrelease := release_leads hperiods hh he 0
  rwa [Nat.zero_add] at hrelease

end Sys2Proof.Machine
end

section
/-! The Bus Cycle Engine (spec/43_bus_cycle_engine.md): what its states answer when the environment
premise of their pad events holds (R113 to R121), and the whole ticks without a transfer (R122 to
R125). -/

namespace Sys2Proof.Machine

/-! ## The states of the engine one by one -/

/-- Settles O10: each half-cycle is one Drive. -/
theorem engineHalfCycles : Obligations.EngineHalfCycles := fun _ =>
  ⟨fun h => congrArg Res.outcome (iLow_full h), fun h => congrArg Res.outcome (iHigh_full h)⟩

/-- Settles O11: the successor is the entry of the latched direction. -/
theorem sAHighDispatches : Obligations.SAHighDispatches := fun s h => by
  have hact : exec .sAHigh s = .next (s.droveTo s.cfg.clkHigh s.tri (transferEntry s.latch.dir)) :=
    congrArg Res.outcome (aHigh_full h)
  rw [hact]
  exact ⟨fun hd => by rw [hd, transferEntry], fun hd => by rw [hd, transferEntry]⟩

/-! ## The decode of S_A_LOW -/

/-- Exactly one strobe low names a direction (R118). -/
theorem decodeDirection_of_ne {rd wr : Bool} (h : rd ≠ wr) :
    decodeDirection rd wr = .ok (if rd then .write else .read) := by
  cases rd <;> cases wr
  case false.true | true.false => rfl
  all_goals exact absurd rfl h

section Decode
variable {c : Config} {m : Mask} {a : Addr}

/-- Direction is decoded before width (R126). -/
theorem decodeCycle_of_direction_error {e : Err}
    (h : decodeDirection (c.lvl m .rd) (c.lvl m .wr) = .error e) :
    decodeCycle c m a = .error e := by
  rw [decodeCycle, h]

/-- With a direction, the width decode says how the cycle decodes (R119, R120). -/
theorem decodeCycle_of_ne (h : c.lvl m .rd ≠ c.lvl m .wr) :
    decodeCycle c m a = (decodeWidth (c.lvl m .bhe) (a.getLsbD 0)).map fun w =>
      (if c.lvl m .rd then .write else .read, decodeSpace c (c.lvl m .mio), w) := by
  rw [decodeCycle, decodeDirection_of_ne h]
  cases decodeWidth (c.lvl m .bhe) (a.getLsbD 0) <;> rfl

end Decode

section Undisturbed
variable {s : State}

theorem opened_envAt (s : State) (k : Nat) : s.opened.envAt k = s.envAt (k + 2) :=
  (tookEnv_envAt _ k).trans (tookEnv_envAt _ (k + 1))

/-- The premise of later pad events, seen from the opened tick. -/
theorem opened_padOk {k : Nat} {out tri : Mask} :
    s.opened.padOk k out tri ↔ s.padOk (k + 2) out tri := by
  simp only [State.padOk, opened_envAt]

/-- A Drive and a Sample in one action, both undisturbed. -/
theorem drive_sample_goes {out tri : Mask} (h0 : s.padOk 0 out tri) (h1 : s.padOk 1 out tri)
    (g : Mask → State → Res Unit) :
    ((drive out tri s).andThen fun _ t => (sample t).andThen g) =
      g (s.tookEnv.padDrive out tri).sampleNow (s.droveSampled out tri) := by
  have hsample : (s.tookEnv.padDrive out tri).padOk 0 out tri := padOk_tookEnv.mpr h1
  rw [drive_goes h0, andThen_goes, sample_goes hsample, andThen_goes]
  rfl

theorem tickOpen_goes (h0 : s.padOk 0 s.cfg.clkHigh s.tri) (h1 : s.padOk 1 s.cfg.clkHigh s.tri) :
    tickOpen s = .goes () s.opened := drive_sample_goes h0 h1 _

theorem resample_goes (h0 : s.padOk 0 s.cfg.clkLow s.tri) (h1 : s.padOk 1 s.cfg.clkLow s.tri) :
    resample s = .goes () s.resampled := drive_sample_goes h0 h1 _

/-- What the Sample after a Drive shows: the environment's levels at the second pad event. -/
theorem padDrive_sampleNow (s : State) (out tri : Mask) :
    (s.tookEnv.padDrive out tri).sampleNow = sampled out tri (s.envAt 1).levels := by
  simp [State.sampleNow]

/-- The state after a Drive under an unchanged TRI and a Sample, read off the state before them. -/
theorem droveSampled_eq (s : State) (out : Mask) : s.droveSampled out s.tri =
    { s.afterPads 2 with
      out := out
      events := s.events ++ [.drive out s.tri, .sample (sampled out s.tri (s.envAt 1).levels)]
      trace := s.sampleTrace } := by
  rw [State.droveSampled, padDrive_sampleNow]
  simp [State.padSample, State.padDrive, State.tookEnv, State.afterPads, State.sampleTrace,
    State.traced]

/-- The state after `tickOpen`, read off the state before it. -/
theorem opened_eq (s : State) : s.opened =
    { s.afterPads 2 with
      out := s.cfg.clkHigh
      s1 := sampled s.cfg.clkHigh s.tri (s.envAt 1).levels
      ticks := s.ticks + 1
      events := s.events ++ [.drive s.cfg.clkHigh s.tri,
        .sample (sampled s.cfg.clkHigh s.tri (s.envAt 1).levels)]
      trace := s.sampleTrace } := by
  rw [State.opened, droveSampled_eq, padDrive_sampleNow]

/-- The state after `resample`, read off the state before it. -/
theorem resampled_eq (s : State) : s.resampled =
    { s.afterPads 2 with
      out := s.cfg.clkLow
      s2 := sampled s.cfg.clkLow s.tri (s.envAt 1).levels
      events := s.events ++ [.drive s.cfg.clkLow s.tri,
        .sample (sampled s.cfg.clkLow s.tri (s.envAt 1).levels)]
      trace := s.sampleTrace } := by
  rw [State.resampled, droveSampled_eq, padDrive_sampleNow]

/-- S_A_LOW, its pad events undisturbed, ends as its decode says (R117). -/
theorem exec_sALow_decodeEnd {r : Except Err (Direction × Space × Width)}
    (h0 : s.padOk 0 s.cfg.clkLow s.tri) (h1 : s.padOk 1 s.cfg.clkLow s.tri)
    (hr : decodeCycle s.cfg s.resampled.s2 s.latch.addr = r) :
    exec .sALow s =
      (decodeEnd r (assembleDw s.cfg s.resampled.s2 s.latch.addr) s.resampled).outcome := by
  have hact : exec .sALow s = (aLow s).outcome := rfl
  rw [hact, aLow, resample_goes h0 h1, ← hr]
  rfl

/-- S_I_LOW and S_I_HIGH one after the other (R115, R116). -/
theorem idleTail_goes (h0 : s.padOk 0 s.cfg.clkLow s.tri) (h1 : s.padOk 1 s.cfg.clkHigh s.tri) :
    idleTail s = .goes () { s.afterPads 2 with
      out := s.cfg.clkHigh
      events := s.events ++ [.drive s.cfg.clkLow s.tri, .drive s.cfg.clkHigh s.tri]
      seq := .sIdle } := by
  have hhigh : (s.droveTo s.cfg.clkLow s.tri .sIHigh).padOk 0 s.cfg.clkHigh s.tri :=
    padOk_tookEnv.mpr h1
  rw [idleTail, iLow_full h0, andThen_goes, iHigh_full hhigh]
  simp [State.droveTo, State.afterPads, Nat.add_assoc]

end Undisturbed

/-- Settles O12: the strobes decide first, then BHE and A0. -/
theorem sALowDecodes : Obligations.SALowDecodes := fun s ⟨h0, h1, _⟩ => by
  have hexec {r} := exec_sALow_decodeEnd (r := r) h0 h1
  rw [resampled_eq] at hexec
  refine ⟨fun hr hw => ?dirNone, fun hr hw => ?dirBoth, fun hne hb ha => ?width,
    fun hne hb ha => ?word, fun hne hb ha => ?upperByte, fun hne hb ha => ?lowerByte⟩
  case dirNone | dirBoth =>
    exact hexec (decodeCycle_of_direction_error (congrArg₂ decodeDirection hr hw))
  case width | word | upperByte | lowerByte =>
    have hwidth := congrArg₂ decodeWidth hb ha
    exact hexec ((decodeCycle_of_ne hne).trans (congrArg (Except.map _) hwidth))

/-! ## Whole ticks without a transfer -/

/-- Settles O15: the tick opens, then come S_I_LOW and S_I_HIGH. -/
theorem idleTick : Obligations.IdleTick := fun low s ⟨h0, h1, h2, h3, _⟩ => by
  have htail := idleTail_goes (s := { s.opened with seq := .sILow })
    (opened_padOk.mpr h2) (opened_padOk.mpr h3)
  have hact : exec (.idle low) s = (idleTail { s.opened with seq := .sILow }).outcome := by
    rw [exec, execIdle, tickOpen_goes h0 h1]; rfl
  rw [hact, htail, opened_eq]
  simp [State.afterPads]

/-- A tick that ends in a DecodeError, its pad events undisturbed (R123 to R125). -/
theorem errorTick_full {s : State} {e : Err} {d : DecodeWord}
    (h0 : s.padOk 0 s.cfg.clkHigh s.tri) (h1 : s.padOk 1 s.cfg.clkHigh s.tri)
    (h2 : s.padOk 2 s.cfg.clkLow s.tri) (h3 : s.padOk 3 s.cfg.clkLow s.tri) :
    errorTick e d s = .next (raise e (.dw d) s.latched.resampled) := by
  have hresample : resample s.latched = .goes () s.latched.resampled :=
    resample_goes (opened_padOk.mpr h2) (opened_padOk.mpr h3)
  rw [errorTick, tickOpen_goes h0 h1, andThen_goes]
  exact congrArg (fun r => (r.andThen fun _ v => .ends (raise e (.dw d) v)).outcome) hresample

/-- Settles O16: the raised state, read off the state before the tick. -/
theorem errorEncodingsAbort : Obligations.ErrorEncodingsAbort :=
  fun i e d s hi hc ht ⟨h0, h1, h2, h3, _⟩ => by
  have hopen : s.latched.sampleTrace = s.trace := by
    rw [sampleTrace_released (s := s.latched) hc ht]
    exact sampleTrace_released hc ht
  rw [exec_of_errorCause hi, errorTick_full h0 h1 h2 h3, resampled_eq, hopen, State.latched,
    opened_eq]
  simp [raise, State.afterPads, State.traced, tracedWhen, State.envAt]

end Sys2Proof.Machine
end

section
/-! The registers of the stop test (spec/43_bus_cycle_engine.md R128, spec/70_reset_and_hazards.md
R189): every operation but S_IDLE answers alike whatever STOP_REQ and TICK_LIMIT hold. -/

namespace Sys2Proof.Machine

/-! ## Actions that make no stop test -/

/-- The state with the two registers of the stop test replaced (R25). -/
def State.withStop (s : State) (b : Bool) (n : Option Nat) : State :=
  { s with stopReq := b, tickLimit := n }

/-- An answer with its state mapped. -/
def Res.mapState {α : Type} (f : State → State) : Res α → Res α
  | .goes a s => .goes a (f s)
  | .ends s => .ends (f s)
  | .stops e => .stops e

theorem outcome_mapState (f : State → State) (r : Res Unit) :
    (r.mapState f).outcome = outcomeMap f r.outcome := by
  cases r <;> rfl

/-- An action that answers alike whatever the registers of the stop test hold, those two apart. -/
def StopBlind {α : Type} (f : State → Res α) : Prop :=
  ∀ s b n, f (s.withStop b n) = (f s).mapState (·.withStop b n)

theorem StopBlind.andThen {α β : Type} {f : State → Res α} {g : α → State → Res β}
    (hf : StopBlind f) (hg : ∀ a, StopBlind (g a)) : StopBlind fun s => (f s).andThen g := by
  intro s b n
  change (f (s.withStop b n)).andThen g = ((f s).andThen g).mapState _
  rw [hf s b n]
  cases f s with
  | goes a t => exact hg a t b n
  | ends t => rfl
  | stops e => rfl

/-- An action chosen by what it reads of the state, the registers of the stop test apart. -/
theorem stopBlind_read {α γ : Type} (p : State → γ) {f : γ → State → Res α}
    (hf : ∀ c, StopBlind (f c))
    (hp : ∀ s b n, p (s.withStop b n) = p s := by intro _ _ _; rfl) :
    StopBlind fun s => f (p s) s := by
  intro s b n
  change f (p (s.withStop b n)) (s.withStop b n) = (f (p s) s).mapState _
  rw [hp, hf]

/-- An action that goes on after an update that commutes with a write of those registers. -/
theorem stopBlind_goes {α : Type} (a : α) (f : State → State)
    (hf : ∀ s b n, f (s.withStop b n) = (f s).withStop b n := by intro _ _ _; rfl) :
    StopBlind fun s => Res.goes a (f s) :=
  fun s b n => congrArg (Res.goes a) (hf s b n)

/-! ## The pad primitives and the requests -/

theorem stopBlind_padEvent (eff : State → State)
    (h : ∀ s b n, eff (s.withStop b n) = (eff s).withStop b n := by intro _ _ _; rfl) :
    StopBlind (padEvent eff) := by
  intro s b n
  have heff : eff (s.withStop b n).tookEnv = (eff s.tookEnv).withStop b n := h s.tookEnv b n
  have henv : (s.withStop b n).envAt 0 = s.envAt 0 := rfl
  rw [padEvent, padEvent, heff, henv, apply_ite (Res.mapState _), apply_ite (Res.mapState _)]
  rfl

theorem stopBlind_drive (out tri : Mask) : StopBlind (drive out tri) :=
  stopBlind_padEvent (State.padDrive out tri)

theorem stopBlind_sample : StopBlind sample :=
  stopBlind_read State.sampleNow fun m =>
    (stopBlind_padEvent (State.padSample m)).andThen fun _ => stopBlind_goes m id

theorem store_withStop (s : State) (b : Bool) (n : Option Nat) (sp : Space) :
    (s.withStop b n).store sp = s.store sp := by
  cases sp <;> rfl

theorem stopBlind_memRead (sp : Space) (a : Addr) (w : Width) : StopBlind (memRead sp a w) := by
  intro s b n
  have ha : (s.withStop b n).answerNow = s.answerNow := rfl
  rw [memRead, memRead, ha, store_withStop]
  cases s.answerNow with
  | reference => cases (s.store sp).read a w <;> rfl
  | other v => rfl
  | silent => rfl

theorem stopBlind_memWrite (sp : Space) (a : Addr) (v : Data) (w : Width) :
    StopBlind (memWrite sp a v w) := by
  intro s b n
  have ha : (s.withStop b n).answerNow = s.answerNow := rfl
  rw [memWrite, memWrite, ha, store_withStop]
  cases s.answerNow with
  | reference => cases (s.store sp).write a v w <;> cases sp <;> rfl
  | other v => rfl
  | silent => rfl

/-! ## The actions of SEQ -/

/-- A Drive of a pair read off the state, and what follows it. -/
theorem stopBlind_edge (p : State → Mask × Mask) {g : Unit → State → Res Unit}
    (hg : ∀ a, StopBlind (g a))
    (hp : ∀ s b n, p (s.withStop b n) = p s := by intro _ _ _; rfl) :
    StopBlind fun s => (drive (p s).1 (p s).2 s).andThen g :=
  (stopBlind_read p (fun c => stopBlind_drive c.1 c.2) hp).andThen hg

theorem stopBlind_goto (q : Seq) : StopBlind (goto q) :=
  stopBlind_goes () _

/-- A Drive under an unchanged TRI, then the successor. -/
theorem stopBlind_driveThen (out : Config → Mask) (q : Seq) :
    StopBlind fun s => driveThen (out s.cfg) q s :=
  stopBlind_edge (fun s => (out s.cfg, s.tri)) fun _ => stopBlind_goto q

theorem stopBlind_tickOpen : StopBlind tickOpen :=
  stopBlind_edge (fun s => (s.cfg.clkHigh, s.tri)) fun _ =>
    stopBlind_sample.andThen fun v =>
      stopBlind_goes () fun t => { t with s1 := v, ticks := t.ticks + 1 }

theorem stopBlind_latchAddress : StopBlind latchAddress := fun _ _ _ => rfl

theorem stopBlind_iLow : StopBlind iLow := stopBlind_driveThen Config.clkLow .sIHigh

theorem stopBlind_iHigh : StopBlind iHigh := stopBlind_driveThen Config.clkHigh .sIdle

theorem stopBlind_resample : StopBlind resample :=
  stopBlind_edge (fun s => (s.cfg.clkLow, s.tri)) fun _ =>
    stopBlind_sample.andThen fun v =>
      stopBlind_goes () fun t => { t with s2 := v }

theorem stopBlind_latchKind (k : CycleKind) : StopBlind (latchKind k) := fun _ _ _ => rfl

theorem stopBlind_raise {α : Type} (e : Err) (info : ErrInfo) :
    StopBlind fun s => (.ends (raise e info s) : Res α) := fun _ _ _ => rfl

theorem stopBlind_decodeEnd (r : Except Err (Direction × Space × Width)) (d : DecodeWord) :
    StopBlind (decodeEnd r d) := by
  obtain _ | ⟨dir, sp, w⟩ := r
  · exact stopBlind_raise _ _
  · exact stopBlind_latchKind _

theorem stopBlind_aLow : StopBlind aLow :=
  stopBlind_resample.andThen fun _ => stopBlind_read
    (fun s => (decodeCycle s.cfg s.s2 s.latch.addr, assembleDw s.cfg s.s2 s.latch.addr))
    fun c => stopBlind_decodeEnd c.1 c.2

theorem stopBlind_aHigh : StopBlind aHigh :=
  stopBlind_edge (fun s => (s.cfg.clkHigh, s.tri)) fun _ =>
    stopBlind_read (fun s => transferEntry s.latch.dir) stopBlind_goto

theorem stopBlind_acceptRead (r : Nat) : StopBlind (acceptRead r) := by
  intro s b n
  rw [acceptRead, acceptRead, apply_ite (Res.mapState _)]
  rfl

/-- An action that first asks whether the block waits. -/
theorem stopBlind_unlessWaiting {f : State → Res Unit} (hf : StopBlind f) :
    StopBlind fun s => if s.waiting then .stops .backendSilent else f s := by
  intro s b n
  change (if s.waiting then _ else f (s.withStop b n)) = _
  rw [hf, apply_ite (Res.mapState _)]
  rfl

theorem stopBlind_rdReq : StopBlind rdReq :=
  stopBlind_unlessWaiting <| stopBlind_edge (fun s => (s.out, s.cfg.triDefault)) fun _ =>
    (stopBlind_read State.latch fun l => stopBlind_memRead l.space l.addr l.width).andThen
      stopBlind_acceptRead

theorem stopBlind_rdLow : StopBlind rdLow :=
  stopBlind_edge (fun s => (s.cfg.clkLow ||| s.cfg.dataMask s.data, s.cfg.triRead)) fun _ =>
    stopBlind_goto .sRdHigh

theorem stopBlind_rdHigh : StopBlind rdHigh :=
  stopBlind_edge (fun s => (s.cfg.clkHigh ||| s.cfg.dataMask s.data, s.tri)) fun _ =>
    stopBlind_goto .sRdRel

/-- The end of a transfer tick. -/
theorem stopBlind_traceTransfer (q : Seq) : StopBlind fun s => goto q (traceTransfer s) :=
  stopBlind_goes () fun s => { traceTransfer s with seq := q }

theorem stopBlind_rdRel : StopBlind rdRel :=
  stopBlind_edge (fun s => (s.cfg.clkHigh, s.cfg.triDefault)) fun _ =>
    stopBlind_traceTransfer .sIdle

/-- The request of S_WR_CAP for the cycle `l`, after its capture of `d` from the sample `v`. -/
theorem stopBlind_forward (l : Latch) (v : Mask) (d : Data) : StopBlind fun s =>
    memWrite l.space l.addr d l.width { s with s3 := v, data := d } :=
  fun s => stopBlind_memWrite l.space l.addr d l.width { s with s3 := v, data := d }

theorem stopBlind_wrCap : StopBlind wrCap :=
  stopBlind_unlessWaiting <| stopBlind_sample.andThen fun v =>
    (stopBlind_read (fun s => (s.latch, s.cfg.decodeData v)) fun c =>
      stopBlind_forward c.1 v c.2).andThen fun _ => stopBlind_goto .sWrLow

theorem stopBlind_wrLow : StopBlind wrLow := stopBlind_driveThen Config.clkLow .sWrHigh

theorem stopBlind_wrHigh : StopBlind wrHigh :=
  stopBlind_edge (fun s => (s.cfg.clkHigh, s.tri)) fun _ =>
    stopBlind_traceTransfer .sIdle

theorem stopBlind_transferTail (dir : Direction) : StopBlind (transferTail dir) := by
  cases dir with
  | read => exact stopBlind_rdReq.andThen fun _ => stopBlind_rdLow.andThen fun _ =>
      stopBlind_rdHigh.andThen fun _ => stopBlind_rdRel
  | write => exact stopBlind_wrCap.andThen fun _ => stopBlind_wrLow.andThen fun _ =>
      stopBlind_wrHigh

/-! ## The operations -/

/-- R128 of an operation: it answers alike whatever the registers of the stop test hold. -/
def StopIgnored (i : Instr) : Prop :=
  ∀ s b n, exec i (s.withStop b n) = outcomeMap (·.withStop b n) (exec i s)

theorem StopBlind.stopIgnored {f : State → Res Unit} (h : StopBlind f) {i : Instr}
    (hi : ∀ s, exec i s = (f s).outcome) : StopIgnored i := fun s b n => by
  rw [hi, hi, h s b n, outcome_mapState]

theorem stopIgnored_sOff : StopIgnored .sOff := fun s b n => by
  cases hs : s.start with
  | false => rw [exec_sOff_stays hs, exec_sOff_stays (s := s.withStop b n) hs]; rfl
  | true =>
    rw [exec_sOff_true hs, exec_sOff_true (s := s.withStop b n) hs, apply_ite (outcomeMap _)]
    rfl

theorem stopIgnored_sRs1 : StopIgnored .sRs1 :=
  ((stopBlind_padEvent State.padInit).andThen fun _ =>
    stopBlind_edge (fun s => (0, s.cfg.triDefault)) fun _ => stopBlind_goes () fun s => { s with
      ticks := 0, err := .none, errInfo := .none, rcnt := 0, seq := .sRs2 }).stopIgnored
        fun _ => rfl

theorem stopIgnored_sRs2 : StopIgnored .sRs2 :=
  ((stopBlind_read State.cfg fun c =>
    stopBlind_padEvent (State.padPower c.vlevel c.vccMask c.gndMask)).andThen fun _ =>
      stopBlind_goto .sRs3).stopIgnored fun _ => rfl

/-- A state that raises RESET and the clock and then counts (R104, R106). -/
theorem stopBlind_resetHigh (f : State → State)
    (hf : ∀ s b n, f (s.withStop b n) = (f s).withStop b n := by intro _ _ _; rfl) :
    StopBlind fun s => (drive (resetHigh s.cfg) s.tri s).andThen fun _ t => .goes () (f t) :=
  stopBlind_edge (fun s => (resetHigh s.cfg, s.tri)) fun _ => stopBlind_goes () f hf

theorem stopIgnored_sRs4A : StopIgnored .sRs4A :=
  (stopBlind_resetHigh fun t => { t with rcnt := 0, seq := .sRs4L }).stopIgnored fun _ => rfl

theorem stopIgnored_sRs4H : StopIgnored .sRs4H :=
  (stopBlind_resetHigh fun t => { t with
    rcnt := t.rcnt + 1
    seq := if t.cfg.resetCycles ≤ t.rcnt + 1 then .sRs5A else .sRs4L }).stopIgnored fun _ => rfl

theorem stopIgnored_transferInstr (dir : Direction) (sp : Space) (w : Width) :
    StopIgnored (transferInstr dir sp w) := by
  have hopen : StopBlind (cycleOpen ⟨dir, sp, w⟩) :=
    stopBlind_tickOpen.andThen fun _ => stopBlind_latchAddress.andThen fun _ =>
      stopBlind_resample.andThen fun _ => (stopBlind_latchKind _).andThen fun _ => stopBlind_aHigh
  exact (hopen.andThen fun _ => stopBlind_transferTail dir).stopIgnored
    (exec_transferInstr dir sp w)

theorem stopIgnored_idle (low : BitVec 5) : StopIgnored (.idle low) :=
  (stopBlind_tickOpen.andThen fun _ => (stopBlind_goto .sILow).andThen fun _ =>
    stopBlind_iLow.andThen fun _ => stopBlind_iHigh).stopIgnored fun _ => rfl

theorem stopIgnored_of_errorCause {i : Instr} {e : Err} {d : DecodeWord}
    (h : errorCause i = some (e, d)) : StopIgnored i :=
  (stopBlind_tickOpen.andThen fun _ => stopBlind_latchAddress.andThen fun _ =>
    stopBlind_resample.andThen fun _ => stopBlind_raise e (.dw d)).stopIgnored
      (exec_of_errorCause h)

/-- The actions of SEQ, S_IDLE apart. -/
theorem stopIgnored_seq {q : Seq} (hq : q ≠ .sIdle) : StopIgnored q.instr := by
  cases q with
  | sOff => exact stopIgnored_sOff
  | sRs1 => exact stopIgnored_sRs1
  | sRs2 => exact stopIgnored_sRs2
  | sRs4A => exact stopIgnored_sRs4A
  | sRs4H => exact stopIgnored_sRs4H
  | sRs4L => exact (stopBlind_driveThen resetLow _).stopIgnored fun _ => rfl
  | sRs5L => exact (stopBlind_driveThen Config.clkLow _).stopIgnored fun _ => rfl
  | sRs3 | sRs5A | sRs5H => exact (stopBlind_driveThen Config.clkHigh _).stopIgnored fun _ => rfl
  | sIdle => exact absurd rfl hq
  | sILow => exact stopBlind_iLow.stopIgnored fun _ => rfl
  | sIHigh => exact stopBlind_iHigh.stopIgnored fun _ => rfl
  | sALow => exact stopBlind_aLow.stopIgnored fun _ => rfl
  | sAHigh => exact stopBlind_aHigh.stopIgnored fun _ => rfl
  | sRdReq => exact stopBlind_rdReq.stopIgnored fun _ => rfl
  | sRdLow => exact stopBlind_rdLow.stopIgnored fun _ => rfl
  | sRdHigh => exact stopBlind_rdHigh.stopIgnored fun _ => rfl
  | sRdRel => exact stopBlind_rdRel.stopIgnored fun _ => rfl
  | sWrCap => exact stopBlind_wrCap.stopIgnored fun _ => rfl
  | sWrLow => exact stopBlind_wrLow.stopIgnored fun _ => rfl
  | sWrHigh => exact stopBlind_wrHigh.stopIgnored fun _ => rfl
  | sStopped | sErr => exact fun _ _ _ => rfl

/-- Settles O51: by the kinds of operation; only the action of S_IDLE makes the stop test. -/
theorem stopHasNoEffectInsideCycle : Obligations.StopHasNoEffectInsideCycle := by
  intro i s b n hi
  cases opKind i with
  | action q => exact stopIgnored_seq (fun hq => hi (congrArg Seq.instr hq)) s b n
  | transfer dir sp w => exact stopIgnored_transferInstr dir sp w s b n
  | idle low => exact stopIgnored_idle low s b n
  | error he => exact stopIgnored_of_errorCause he s b n

end Sys2Proof.Machine
end

section
/-! The Transfer Executor (spec/44_transfer_executor.md): what its states answer when the environment
premise of their pad events holds (R131 to R138), the whole transfer ticks (R139 to R151), and who owns
the address/data lines (R152, R153). -/

namespace Sys2Proof.Machine

/-! ## The states of the executor one by one -/

/-- Settles O19: each of the three states is one Drive; the last writes the trace record. -/
theorem readDrivesHoldsReleases : Obligations.ReadDrivesHoldsReleases := fun _ =>
  ⟨fun h => congrArg Res.outcome (rdLow_full h), fun h => congrArg Res.outcome (rdHigh_full h),
    fun h => congrArg Res.outcome (rdRel_full h)⟩

/-- Settles O21: each half-cycle is one Drive; the last writes the trace record. -/
theorem writeTogglesTwice : Obligations.WriteTogglesTwice := fun _ =>
  ⟨fun h => congrArg Res.outcome (wrLow_full h), fun h => congrArg Res.outcome (wrHigh_full h)⟩

/-- The state after S_WR_CAP's request, read off the state before it. -/
theorem forwarded_eq (s : State) : s.forwarded =
    { s.afterPads 1 with
      s3 := s.sampleNow
      data := s.cfg.decodeData s.sampleNow
      answers := s.answers.tail
      events := s.events ++ [.sample s.sampleNow,
        .write s.latch.space s.latch.addr (s.cfg.decodeData s.sampleNow) s.latch.width]
      trace := s.sampleTrace } := by
  rw [State.forwarded, List.append_assoc]
  rfl

/-- S_WR_CAP, accepted (R136). -/
theorem wrCap_goes {s : State} {m : Memory} (hw : s.waiting = false) (h : s.padOk 0 s.out s.tri)
    (ha : s.acceptsWrite s.latch.space s.latch.addr (s.cfg.decodeData s.sampleNow) s.latch.width m) :
    wrCap s = .goes () (State.withStore { s.forwarded with seq := .sWrLow } s.latch.space m) :=
  wrCap_accepted hw h ha

/-- Settles O20: one Sample, then one accepted request. -/
theorem sWrCapForwardsWhole : Obligations.SWrCapForwardsWhole := fun s m hw h ha => by
  have hact := congrArg Res.outcome (wrCap_goes hw h ha)
  rw [forwarded_eq] at hact
  exact hact

/-- R135 without a shift. -/
theorem readValue_upperByte_by0 {c : Config} (h : c.ubReadShift = .by0) (r : Nat) :
    readValue c .upperByte r = r := by
  simp [readValue, h, UbReadShift.amount]

/-- R135 with a shift, which moves an UpperByte answer into the upper lane. -/
theorem readValue_upperByte_by8 {c : Config} (h : c.ubReadShift = .by8) (r : Nat) :
    readValue c .upperByte r = r * 256 := by
  simp [readValue, h, UbReadShift.amount, Nat.shiftLeft_eq]

/-- The state after S_RD_REQ's answer, read off the state before it. -/
theorem requested_eq (s : State) (r : Nat) : s.requested r =
    { s.afterPads 1 with
      tri := s.cfg.triDefault
      answers := s.answers.tail
      events := s.events ++ [.drive s.out s.cfg.triDefault,
        .read s.latch.space s.latch.addr s.latch.width r] } := by
  rw [State.requested, List.append_assoc]
  rfl

/-- S_RD_REQ, answered, ends as the check of the value says (R131). -/
theorem rdReq_goes {s : State} {r : Nat} (hw : s.waiting = false)
    (h : s.padOk 0 s.out s.cfg.triDefault)
    (ha : s.answersRead s.latch.space s.latch.addr s.latch.width r) :
    rdReq s = acceptRead r (s.requested r) := rdReq_answered hw h ha

/-- Settles O17: the value that is formed decides between S_RD_LOW and ContractViolation. -/
theorem sRdReqForwardsAnswer : Obligations.SRdReqForwardsAnswer := fun s r hw h ha => by
  intro t v
  have hact : exec .sRdReq s = (acceptRead r t).outcome :=
    congrArg Res.outcome ((rdReq_goes hw h ha).trans (congrArg (acceptRead r) (requested_eq s r)))
  have hv : readValue t.cfg t.latch.width r = v := by
    change readValue s.cfg s.latch.width r = v
    dsimp only [v]
    cases s.latch.width with
    | word | lowerByte => rfl
    | upperByte =>
      cases hs : s.cfg.ubReadShift with
      | by0 => exact readValue_upperByte_by0 hs r
      | by8 => exact readValue_upperByte_by8 hs r
  rw [hact, ← hv]
  exact ⟨fun hle => congrArg Res.outcome (acceptRead_fits hle),
    fun hlt => congrArg Res.outcome (acceptRead_violates hlt)⟩

/-! ## Whole transfer ticks -/

section Ticks
variable {s t : State}

/-- The premise of pad events, seen from a state that has used up `n` environment records. -/
theorem padsOk_shift {n k : Nat} {ps : List (Mask × Mask)}
    (ht : ∀ k, t.envAt k = s.envAt (n + k)) : t.padsOk k ps ↔ s.padsOk (n + k) ps := by
  induction ps generalizing k with
  | nil => exact Iff.rfl
  | cons p ps ih =>
    refine and_congr ?_ ih
    rw [State.padOk, State.padOk, ht]

theorem padsOk_append {k : Nat} {ps qs : List (Mask × Mask)} :
    s.padsOk k (ps ++ qs) ↔ s.padsOk k ps ∧ s.padsOk (k + ps.length) qs := by
  induction ps generalizing k with
  | nil => exact (iff_of_eq (true_and _)).symm
  | cons p ps ih =>
    rw [List.length_cons, Nat.add_comm ps.length, ← Nat.add_assoc]
    exact (and_congr_right fun _ => ih).trans and_assoc.symm

/-- The state in which the transfer of a tick starts, the tick having begun under TRI_DEFAULT (R139). -/
def State.entered (s : State) (k : CycleKind) : State :=
  { s.afterPads 5 with
    out := s.cfg.clkHigh
    tri := s.cfg.triDefault
    s1 := sampled s.cfg.clkHigh s.cfg.triDefault (s.envAt 1).levels
    s2 := sampled s.cfg.clkLow s.cfg.triDefault (s.envAt 3).levels
    latch := ⟨tickAddr s, k.dir, k.space, k.width⟩
    ticks := s.ticks + 1
    events := s.events ++ openEvents s
    seq := transferEntry k.dir }

theorem entered_envAt (s : State) (k : CycleKind) (j : Nat) :
    (s.entered k).envAt j = s.envAt (5 + j) := afterPads_envAt s 5 j

/-- What the Sample of a write tick shows. -/
theorem entered_sampleNow (s : State) (k : CycleKind) : (s.entered k).sampleNow =
    sampled s.cfg.clkHigh s.cfg.triDefault (s.envAt 5).levels := by
  rw [State.sampleNow, entered_envAt]
  rfl

/-- The premise of a tick's pad events is that of its opening and that of its transfer. -/
theorem entered_padsOk {k : CycleKind} {ps : List (Mask × Mask)}
    (h : s.padsOk 0 (openPads s.cfg ++ ps)) :
    s.padsOk 0 (openPads s.cfg) ∧ (s.entered k).padsOk 0 ps := by
  obtain ⟨hopen, htail⟩ := padsOk_append.mp h
  exact ⟨hopen, (padsOk_shift (entered_envAt s k)).mpr htail⟩

/-- The state after the decode of a tick whose row names the kind `k` (R113, R114, R117). -/
def State.decoded (s : State) (k : CycleKind) : State :=
  { s.latched.resampled with
    latch := ⟨s.latched.latch.addr, k.dir, k.space, k.width⟩, seq := .sAHigh }

/-- The state after the decode, read off the state before the tick. -/
theorem decoded_eq (hc : s.cfg.wf = true) (ht : s.tri = s.cfg.triDefault) (k : CycleKind) :
    s.decoded k = { s.afterPads 4 with
      out := s.cfg.clkLow
      s1 := sampled s.cfg.clkHigh s.cfg.triDefault (s.envAt 1).levels
      s2 := sampled s.cfg.clkLow s.cfg.triDefault (s.envAt 3).levels
      latch := ⟨tickAddr s, k.dir, k.space, k.width⟩
      ticks := s.ticks + 1
      events := s.events ++ [.drive s.cfg.clkHigh s.cfg.triDefault,
        .sample (sampled s.cfg.clkHigh s.cfg.triDefault (s.envAt 1).levels),
        .drive s.cfg.clkLow s.cfg.triDefault,
        .sample (sampled s.cfg.clkLow s.cfg.triDefault (s.envAt 3).levels)]
      seq := .sAHigh } := by
  have hopen : s.latched.sampleTrace = s.trace := by
    rw [sampleTrace_released (s := s.latched) hc ht]
    exact sampleTrace_released hc ht
  rw [State.decoded, resampled_eq, hopen, State.latched, opened_eq]
  simp [State.afterPads, State.envAt, tickAddr, ht]

/-- The part of a tick before its transfer, up to the decode (R113, R114, R117). -/
theorem cycleOpen_eq_aHigh (h0 : s.padOk 0 s.cfg.clkHigh s.tri) (h1 : s.padOk 1 s.cfg.clkHigh s.tri)
    (h2 : s.padOk 2 s.cfg.clkLow s.tri) (h3 : s.padOk 3 s.cfg.clkLow s.tri) (k : CycleKind) :
    cycleOpen k s = aHigh (s.decoded k) := by
  have hresample : resample s.latched = .goes () s.latched.resampled :=
    resample_goes (opened_padOk.mpr h2) (opened_padOk.mpr h3)
  rw [cycleOpen, tickOpen_goes h0 h1, andThen_goes]
  exact congrArg (fun r => r.andThen fun _ v => (latchKind k v).andThen fun _ x => aHigh x) hresample

/-- The part of a tick before its transfer (R113, R114, R117, R121). -/
theorem cycleOpen_goes (hc : s.cfg.wf = true) (ht : s.tri = s.cfg.triDefault)
    (h : s.padsOk 0 (openPads s.cfg)) (k : CycleKind) : cycleOpen k s = .goes () (s.entered k) := by
  obtain ⟨h0, h1, h2, h3, h4, -⟩ := h
  rw [← ht] at h0 h1 h2 h3 h4
  have hhigh : (s.decoded k).padOk 0 s.cfg.clkHigh s.tri := opened_padOk.mpr (opened_padOk.mpr h4)
  rw [cycleOpen_eq_aHigh h0 h1 h2 h3, aHigh_full hhigh, decoded_eq hc ht]
  simp [State.entered, State.droveTo, State.afterPads, openEvents, ht]

/-- The premise of later pad events, seen from the state after one Drive. -/
theorem droveTo_padOk {k : Nat} {out tri out' tri' : Mask} {q : Seq} :
    (s.droveTo out tri q).padOk k out' tri' ↔ s.padOk (k + 1) out' tri' := padOk_tookEnv

/-- The three Drives that complete a read (R132 to R134). -/
theorem readDrives_go (h0 : s.padOk 0 (s.cfg.clkLow ||| s.cfg.dataMask s.data) s.cfg.triRead)
    (h1 : s.padOk 1 (s.cfg.clkHigh ||| s.cfg.dataMask s.data) s.cfg.triRead)
    (h2 : s.padOk 2 s.cfg.clkHigh s.cfg.triDefault) :
    ((rdLow s).andThen fun _ t => (rdHigh t).andThen fun _ u => rdRel u) =
      .goes () { s.afterPads 3 with
        out := s.cfg.clkHigh
        tri := s.cfg.triDefault
        events := s.events ++ [.drive (s.cfg.clkLow ||| s.cfg.dataMask s.data) s.cfg.triRead,
          .drive (s.cfg.clkHigh ||| s.cfg.dataMask s.data) s.cfg.triRead,
          .drive s.cfg.clkHigh s.cfg.triDefault]
        trace := tracedWhen s.verbose s.trace (.transfer s.ticks s.latch s.data)
        seq := .sIdle } := by
  have hhigh := rdHigh_full (s := s.droveTo (s.cfg.clkLow ||| s.cfg.dataMask s.data) s.cfg.triRead
    .sRdHigh) (droveTo_padOk.mpr h1)
  rw [rdLow_full h0, andThen_goes, hhigh, andThen_goes,
    rdRel_full (droveTo_padOk.mpr (droveTo_padOk.mpr h2))]
  simp [State.droveTo, State.afterPads, State.traced]

/-- The two Drives that complete a write (R137, R138). -/
theorem writeDrives_go (h0 : s.padOk 0 s.cfg.clkLow s.tri) (h1 : s.padOk 1 s.cfg.clkHigh s.tri) :
    ((wrLow s).andThen fun _ t => wrHigh t) =
      .goes () { s.afterPads 2 with
        out := s.cfg.clkHigh
        events := s.events ++ [.drive s.cfg.clkLow s.tri, .drive s.cfg.clkHigh s.tri]
        trace := tracedWhen s.verbose s.trace (.transfer s.ticks s.latch s.data)
        seq := .sIdle } := by
  rw [wrLow_full h0, andThen_goes, wrHigh_full (droveTo_padOk.mpr h1)]
  simp [State.droveTo, State.afterPads, State.traced]

/-- Those two Drives after a store was replaced. -/
theorem writeDrives_withStore_go (h0 : s.padOk 0 s.cfg.clkLow s.tri)
    (h1 : s.padOk 1 s.cfg.clkHigh s.tri) (sp : Space) (m : Memory) :
    ((wrLow (s.withStore sp m)).andThen fun _ t => wrHigh t) =
      .goes () (State.withStore { s.afterPads 2 with
        out := s.cfg.clkHigh
        events := s.events ++ [.drive s.cfg.clkLow s.tri, .drive s.cfg.clkHigh s.tri]
        trace := tracedWhen s.verbose s.trace (.transfer s.ticks s.latch s.data)
        seq := .sIdle } sp m) := by
  cases sp with
  | memory => exact writeDrives_go (s := { s with mem := m }) h0 h1
  | io => exact writeDrives_go (s := { s with io := m }) h0 h1

/-- The request of a read and its three Drives (R131 to R134). -/
theorem transferTail_read_goes {r : Nat} {d : Data} (hw : s.waiting = false)
    (ha : s.answersRead s.latch.space s.latch.addr s.latch.width r)
    (hv : readValue s.cfg s.latch.width r ≤ 65535)
    (hd : BitVec.ofNat 16 (readValue s.cfg s.latch.width r) = d)
    (h : s.padsOk 0 [(s.out, s.cfg.triDefault), (s.cfg.clkLow ||| s.cfg.dataMask d, s.cfg.triRead),
      (s.cfg.clkHigh ||| s.cfg.dataMask d, s.cfg.triRead), (s.cfg.clkHigh, s.cfg.triDefault)]) :
    transferTail .read s = .goes () { s.afterPads 4 with
      out := s.cfg.clkHigh
      tri := s.cfg.triDefault
      data := d
      answers := s.answers.tail
      events := s.events ++ [.drive s.out s.cfg.triDefault,
        .read s.latch.space s.latch.addr s.latch.width r,
        .drive (s.cfg.clkLow ||| s.cfg.dataMask d) s.cfg.triRead,
        .drive (s.cfg.clkHigh ||| s.cfg.dataMask d) s.cfg.triRead,
        .drive s.cfg.clkHigh s.cfg.triDefault]
      trace := tracedWhen s.verbose s.trace (.transfer s.ticks s.latch d)
      seq := .sIdle } := by
  obtain ⟨h0, h1, h2, h3, -⟩ := h
  have hreq : rdReq s = .goes () { s.requested r with data := d, seq := .sRdLow } :=
    hd ▸ (rdReq_goes hw h0 ha).trans (acceptRead_fits (s := s.requested r) hv)
  rw [transferTail, hreq, andThen_goes,
    readDrives_go (s := { s.requested r with data := d, seq := .sRdLow }) (padOk_tookEnv.mpr h1)
      (padOk_tookEnv.mpr h2) (padOk_tookEnv.mpr h3), requested_eq]
  simp [State.afterPads]

/-- The capture of a write, its request and its two Drives (R136 to R138). -/
theorem transferTail_write_goes {v : Mask} {m : Memory} (hw : s.waiting = false)
    (hv : s.sampleNow = v) (hr : s.sampleTrace = s.trace)
    (ha : s.acceptsWrite s.latch.space s.latch.addr (s.cfg.decodeData v) s.latch.width m)
    (h : s.padsOk 0 [(s.out, s.tri), (s.cfg.clkLow, s.tri), (s.cfg.clkHigh, s.tri)]) :
    transferTail .write s = .goes () (State.withStore { s.afterPads 3 with
      out := s.cfg.clkHigh
      s3 := v
      data := s.cfg.decodeData v
      answers := s.answers.tail
      events := s.events ++ [.sample v,
        .write s.latch.space s.latch.addr (s.cfg.decodeData v) s.latch.width,
        .drive s.cfg.clkLow s.tri, .drive s.cfg.clkHigh s.tri]
      trace := tracedWhen s.verbose s.trace (.transfer s.ticks s.latch (s.cfg.decodeData v))
      seq := .sIdle } s.latch.space m) := by
  subst hv
  obtain ⟨h0, h1, h2, -⟩ := h
  rw [transferTail, wrCap_goes hw h0 ha, andThen_goes,
    writeDrives_withStore_go (s := { s.forwarded with seq := .sWrLow }) (padOk_tookEnv.mpr h1)
      (padOk_tookEnv.mpr h2), forwarded_eq, hr]
  simp [State.afterPads]

end Ticks

/-- Settles O22: the tick opens, then comes the transfer of its row. -/
theorem readOperations : Obligations.ReadOperations := by
  intro i sp w hi s r hc ht hw ha hv h
  obtain ⟨hopen, htail⟩ := entered_padsOk (k := ⟨.read, sp, w⟩) h
  obtain rfl : i = transferInstr .read sp w := eq_transferInstr_of_mem_readOps _ hi
  rw [exec_transferInstr, cycleOpen_goes hc ht hopen, andThen_goes,
    transferTail_read_goes (s := s.entered ⟨.read, sp, w⟩) hw ha hv rfl htail]
  simp only [State.entered, State.afterPads, List.append_assoc, List.drop_drop]
  rfl

/-- Settles O23: the tick opens, then comes the transfer of its row. -/
theorem writeOperations : Obligations.WriteOperations := by
  intro i sp w hi s m hc ht hw ha h
  obtain ⟨hopen, htail⟩ := entered_padsOk (k := ⟨.write, sp, w⟩) h
  obtain rfl : i = transferInstr .write sp w := eq_transferInstr_of_mem_writeOps _ hi
  have htrace : (s.entered ⟨.write, sp, w⟩).sampleTrace = s.trace := sampleTrace_released hc rfl
  rw [exec_transferInstr, cycleOpen_goes hc ht hopen, andThen_goes,
    transferTail_write_goes (s := s.entered ⟨.write, sp, w⟩) hw (entered_sampleNow s _) htrace
      ha htail]
  simp only [State.entered, State.afterPads, List.append_assoc, List.drop_drop]
  rfl

/-! ## Who owns the address/data lines -/

/-- Under TRI_DEFAULT every address/data pin is released (R17). -/
theorem pinOut_ad_triDefault {s : State} (hc : s.cfg.wf = true) (ht : s.tri = s.cfg.triDefault)
    (n : Fin 20) : s.pinOut (s.cfg.pins.pin (.ad n)) = none := by
  rw [State.pinOut, ht, if_pos (triDefault_sampled hc (ad_mem_sampled n))]

/-- Under Init's TRI every pin is released (R91). -/
theorem pinOut_allOnes {s : State} (ht : s.tri = BitVec.allOnes 160) (p : Pin) :
    s.pinOut p = none := by
  rw [State.pinOut, ht, BitVec.getLsbD_allOnes, decide_eq_true p.isLt, if_pos rfl]

/-- R152: an address/data pin is driven only in two states of a read and after an AdapterIoError. -/
theorem MachineInv.driver_of_ad {s : State} (h : MachineInv s) (hq : s.seq ≠ .sOff) {n : Fin 20}
    (hd : s.pinOut (s.cfg.pins.pin (.ad n)) ≠ none) :
    s.seq = .sRdHigh ∨ s.seq = .sRdRel ∨ s.seq = .sErr ∧ s.err = .adapterIo := by
  have hdef : s.tri ≠ s.cfg.triDefault := fun ht => hd (pinOut_ad_triDefault (h.cfgOk hq) ht n)
  have hinit : s.seq ≠ .sRs1 := fun h1 =>
    hd (pinOut_allOnes ((h.tri_eq (by simp [h1])).trans (by rw [h1]; rfl)) _)
  by_cases he : s.seq = .sErr
  · by_cases hio : s.err = .adapterIo
    · exact .inr (.inr ⟨he, hio⟩)
    · exact absurd (h.released he hio).1 hdef
  · exact (padsAt_tri_ne (by simp [he, hq, hinit]) (h.tri_eq he ▸ hdef)).imp_right .inl

/-! ## The trace port -/

@[simp] theorem withStore_trace (s : State) (sp : Space) (m : Memory) :
    (s.withStore sp m).trace = s.trace := by cases sp <;> rfl

/-- Going from `s` to `t`, the trace port writes at most one record, which is no warning of R153. -/
def TracesNoWarning (s t : State) : Prop :=
  t.trace = s.trace ∨ ∃ r, (∀ m, r ≠ .overDrive m) ∧ t.trace = s.traced r

theorem TracesNoWarning.mem {s t : State} (h : TracesNoWarning s t) {m : Mask}
    (hm : .overDrive m ∈ t.trace) : .overDrive m ∈ s.trace := by
  rcases h with h | ⟨r, hr, h⟩ <;> rw [h] at hm
  · exact hm
  · rw [State.traced, tracedWhen] at hm
    split at hm
    · rcases List.mem_append.mp hm with hm | hm
      · exact hm
      · exact absurd (List.mem_singleton.mp hm).symm (hr m)
    · exact hm

/-- Raising an error writes an error record (R175). -/
theorem TracesNoWarning.raise {s t : State} (ht : t.trace = s.trace) (hv : t.verbose = s.verbose)
    (e : Err) (info : ErrInfo) : TracesNoWarning s (raise e info t) :=
  .inr ⟨.error e info, nofun, by rw [raise_trace, State.traced, ht, hv]; rfl⟩

/-- A state whose action is one Drive writes at most a transfer record (R175). -/
theorem afterEdge_tracesNoWarning {s t : State} {q : Seq} (h : afterEdge s q = some t) :
    TracesNoWarning s t := by
  cases q <;> cases h
  case sRdRel.refl | sWrHigh.refl => exact .inr ⟨.transfer s.ticks s.latch s.data, nofun, rfl⟩
  all_goals exact .inl rfl

/-- The states that Sample do so under TRI_DEFAULT (R35 INV-TRI). -/
theorem MachineInv.sampleTrace_eq {s : State} (h : MachineInv s)
    (hq : s.seq = .sIdle ∨ s.seq = .sALow ∨ s.seq = .sWrCap) : s.sampleTrace = s.trace := by
  rcases hq with hq | hq | hq <;> obtain ⟨hr, -, ht, -⟩ := h.inRun hq nofun nofun <;>
    exact sampleTrace_released hr.cfgOk ht

/-- R153: from a state of the invariant no action writes an over-drive warning. -/
theorem Acts.tracesNoWarning {s t : State} (h : Acts s s.seq t) (hs : MachineInv s) :
    TracesNoWarning s t := by
  generalize hq : s.seq = q at h
  have hsample := hs.sampleTrace_eq
  rw [hq] at hsample
  cases h with
  | waits | starts | absorbs | initialises | powers | halts | readHangs | accepts => exact .inl rfl
  | fails | initialisedFails | sampleFails | violates => exact .raise rfl rfl _ _
  | edge _ ht => exact afterEdge_tracesNoWarning (s := s.tookEnv.padDrive _ _) ht
  | idles | latches => exact .inl (hsample (.inl rfl))
  | decodes => exact .inl (hsample (.inr (.inl rfl)))
  | rejects => exact .raise (t := s.resampled) (hsample (.inr (.inl rfl))) rfl _ _
  | writeHangs | forwards => exact .inl (hsample (.inr (.inr rfl)))
  | stores => exact .inl ((withStore_trace _ _ _).trans (hsample (.inr (.inr rfl))))

/-- A host act writes no record; the block's reset empties the trace. -/
theorem hostAct_trace {a : HostAct} {s t : State} (h : hostAct a s = some t) :
    t.trace = s.trace ∨ t.trace = [] := by
  cases a with
  | nothing | writeStopReq => cases h; exact .inl rfl
  | writeStart | writeTickLimit | writeVerbose | configure =>
    simp only [hostAct] at h
    split at h <;> cases h
    exact .inl rfl
  | blockReset => cases h; exact .inr rfl

theorem hostTurn_trace {s t : State} (h : hostTurn s = some t) :
    t.trace = s.trace ∨ t.trace = [] := by
  unfold hostTurn at h
  split at h
  · cases h; exact .inl rfl
  · have htrace := hostAct_trace h
    exact htrace

/-- From a state of the invariant to a later one: no over-drive warning is new. -/
def NoNewWarning (s t : State) : Prop :=
  MachineInv t ∧ ∀ m, .overDrive m ∈ t.trace → .overDrive m ∈ s.trace

/-- What a step fetches is a run of actions, none of which writes a warning. -/
theorem runFetched_noNewWarning {s t : State} (hs : MachineInv s) (h : runFetched s = .next t) :
    NoNewWarning s t := by
  obtain ⟨n, -, he⟩ := runs_runFetched s
  refine run_keeps (M := actionCore) (P := NoNewWarning s) (fun u v hu hv => ?_)
    ⟨hs, fun _ => id⟩ (he.trans h)
  obtain ⟨hinv, hmem⟩ := hu
  have hact := acts_of_exec hv
  exact ⟨hact.keepsInv hinv, fun m hm => hmem m ((hact.tracesNoWarning hinv).mem hm)⟩

/-- Settles O42: who drives the lines, by the pads of each SEQ value; no step writes a warning, since
neither the host's turn nor what it fetches does. -/
theorem dataLinesOwnedOnlyInRead : Obligations.DataLinesOwnedOnlyInRead := by
  refine ⟨fun s n hs hq hd => ⟨?_, hs.driver_of_ad hq hd⟩, fun s t m hs h hm => ?_⟩
  · exact Nat.lt_of_not_le fun hn => hd (hs.adHigh hq hn)
  · obtain ⟨u, hu, hr⟩ := step_next h
    have hmem := (runFetched_noNewWarning (hostTurn_keepsInv hs hu) hr).2 m hm
    rcases hostTurn_trace hu with htr | htr <;> rw [htr] at hmem
    · exact hmem
    · exact absurd hmem List.not_mem_nil

end Sys2Proof.Machine
end

section
/-! Halts and exceptions (spec/60_exceptions.md R163, R164, R168): a failure after an earlier pad event,
the stop test, what raising changes, and the two states a run ends in. -/

namespace Sys2Proof.Machine

/-! ## A failing Sample of S_A_LOW -/

/-- A Drive that had its effect, and the environment record of the pad event after it used up. -/
theorem padDrive_tookEnv (s : State) (out tri : Mask) : (s.tookEnv.padDrive out tri).tookEnv =
    { s.afterPads 2 with out := out, tri := tri, events := s.events ++ [.drive out tri] } := by
  simp [State.tookEnv, State.padDrive, State.afterPads]

/-- When only the second pad event of the falling edge fails, AdapterIoError is raised after the Drive's
effect and S2 is not written (R97, R163). -/
theorem resample_ends_of_sample_fails {s : State} (h0 : s.padOk 0 s.cfg.clkLow s.tri)
    (h1 : (s.envAt 1).fails = true) :
    resample s = .ends (raise .adapterIo .none (s.tookEnv.padDrive s.cfg.clkLow s.tri).tookEnv) := by
  have hf : ((s.tookEnv.padDrive s.cfg.clkLow s.tri).envAt 0).fails = true := by
    rwa [padDrive_envAt, tookEnv_envAt]
  rw [resample, drive_goes h0, andThen_goes, (sample_opens _).ends_of_fails hf, andThen_ends]

/-- Settles O31: the Sample ends the action before S2 is stored and anything is decoded. -/
theorem lateAdapterFailureKeepsEarlierWrites : Obligations.LateAdapterFailureKeepsEarlierWrites := by
  intro s h0 h1
  have hact : exec .sALow s = (aLow s).outcome := rfl
  rw [hact, aLow, resample_ends_of_sample_fails h0 h1, andThen_ends, outcome_ends, padDrive_tookEnv]
  rfl

/-! ## The stop test -/

/-- TICK_LIMIT is reached exactly when it is set and TICKS is not below it (R168). -/
theorem limitReached_iff {limit : Option Nat} {ticks : Nat} :
    limitReached limit ticks = true ↔ ∃ n, limit = some n ∧ n ≤ ticks := by
  cases limit <;> simp [limitReached]

/-- The two reasons to stop (R168). -/
theorem stopTest_iff {s : State} : s.stopTest = true ↔
    s.stopReq = true ∨ ∃ n, s.tickLimit = some n ∧ n ≤ s.ticks := by
  rw [State.stopTest, Bool.or_eq_true, limitReached_iff]

/-- Settles O8: the stop test comes before anything else of S_IDLE. -/
theorem sIdleStops : Obligations.SIdleStops := by
  intro s h
  have hact : exec .sIdle s = (idleAction s).outcome := rfl
  rw [hact, idleAction, if_pos (stopTest_iff.mpr h), outcome_goes]
  rfl

/-! ## Raising an error, and the states a run ends in -/

/-- Settles O28: the fields that `raise` writes are those named, with VERBOSE's test of the trace. -/
theorem raiseEntersErr : Obligations.RaiseEntersErr := fun _ _ _ => rfl

/-- A step at a SEQ value other than S_IDLE, without a host act, is its action in either unit (R13). -/
theorem step_eq_exec_seq {s : State} (hs : s.host = []) (hq : s.seq ≠ .sIdle) :
    step s = exec s.seq.instr s := by
  rw [step_of_no_host hs]
  exact runFetched_seq fun ⟨_, hidle, _⟩ => hq hidle

/-- Settles O29: neither action does anything, and outside S_IDLE a step is the action of SEQ. -/
theorem haltedStatesAbsorb : Obligations.HaltedStatesAbsorb := by
  refine fun s => ⟨rfl, rfl, fun hs hq => ?_⟩
  have hidle : s.seq ≠ .sIdle := by rcases hq with hq | hq <;> simp [hq]
  rw [step_eq_exec_seq hs hidle]
  rcases hq with hq | hq <;> rw [hq] <;> rfl

end Sys2Proof.Machine
end

section
/-! Reset and hazards (spec/70_reset_and_hazards.md R189, R196): the block that a silent backend leaves
stuck, and what a completed tick costs. -/

namespace Sys2Proof.Machine

/-! ## A silent backend -/

theorem memRead_silent {s : State} (h : s.answerNow = .silent) (sp : Space) (a : Addr) (w : Width) :
    memRead sp a w s = .ends s.hung := by
  simp [memRead, h]

theorem memWrite_silent {s : State} (h : s.answerNow = .silent) (sp : Space) (a : Addr) (v : Data)
    (w : Width) : memWrite sp a v w s = .ends s.hung := by
  simp [memWrite, h]

/-- S_RD_REQ, never answered, ends after its Drive (R131, R189). -/
theorem rdReq_hangs {s : State} (hw : s.waiting = false) (h : s.padOk 0 s.out s.cfg.triDefault)
    (ha : s.answerNow = .silent) :
    rdReq s = .ends (s.tookEnv.padDrive s.out s.cfg.triDefault).hung := by
  have hreq := memRead_silent (s := s.tookEnv.padDrive s.out s.cfg.triDefault) ha
  rw [rdReq, if_neg (by simp [hw]), drive_goes h, andThen_goes, hreq, andThen_ends]

/-- S_WR_CAP, never answered, ends after its capture (R136, R189). -/
theorem wrCap_hangs {s : State} (hw : s.waiting = false) (h : s.padOk 0 s.out s.tri)
    (ha : s.answerNow = .silent) : wrCap s = .ends s.captured.hung := by
  have hreq := memWrite_silent (s := s.captured) ha
  rw [wrCap, if_neg (by simp [hw]), sample_goes h, andThen_goes]
  exact congrArg (Res.andThen · _) (hreq _ _ _ _)

/-- A state that waits for the backend has no successor (R189). -/
theorem step_of_waiting {s : State} (hh : s.host = []) (hw : s.waiting = true)
    (hq : s.seq = .sRdReq ∨ s.seq = .sWrCap) : step s = .fault .backendSilent := by
  rw [step_eq_exec_seq hh (by rcases hq with hq | hq <;> simp [hq])]
  rcases hq with hq | hq <;> rw [hq]
  · exact congrArg Res.outcome (if_pos hw : rdReq s = .stops .backendSilent)
  · exact congrArg Res.outcome (if_pos hw : wrCap s = .stops .backendSilent)

/-- Settles O18: the request hangs, and the state that waits for its answer is stuck. -/
theorem silentBackendIsStuck : Obligations.SilentBackendIsStuck := by
  intro s hw ha hh _
  refine ⟨fun hq h => ?_, fun hq h => ?_⟩
  · have hstep : step s = .next (s.tookEnv.padDrive s.out s.cfg.triDefault).hung := by
      rw [step_eq_exec_seq hh (by simp [hq]), hq]
      exact congrArg Res.outcome (rdReq_hangs hw h ha)
    exact ⟨_, hstep, hq, rfl, rfl, rfl, step_of_waiting hh rfl (.inl hq)⟩
  · have hstep : step s = .next s.captured.hung := by
      rw [step_eq_exec_seq hh (by simp [hq]), hq]
      exact congrArg Res.outcome (wrCap_hangs hw h ha)
    exact ⟨_, hstep, hq, rfl, rfl, rfl, rfl, rfl, rfl, rfl, rfl, step_of_waiting hh rfl (.inr hq)⟩

/-! ## What an action of a tick costs -/

/-- The Drives, the Samples and the requests of a history (R196). -/
def tally (es : List Event) : Nat × Nat × Nat :=
  (es.countP Event.isDrive, es.countP Event.isSample, es.countP Event.isRequest)

theorem tally_append (es fs : List Event) : tally (es ++ fs) = tally es + tally fs := by
  simp [tally]

theorem tally_append_two (es : List Event) (e e' : Event) :
    tally (es ++ [e] ++ [e']) = tally es + tally [e, e'] := by
  rw [List.append_assoc, tally_append]
  rfl

theorem tally_eq_iff {es : List Event} {d n r : Nat} : tally es = (d, n, r) ↔
    es.countP Event.isDrive = d ∧ es.countP Event.isSample = n ∧ es.countP Event.isRequest = r := by
  simp [tally]

/-- Where the action goes on, it has added `c` to the tally; where it ends, the tick is not completed. -/
abbrev Res.Costs (r : Res Unit) (s : State) (c : Nat × Nat × Nat) : Prop :=
  r.Sat (fun _ t => tally t.events = tally s.events + c) fun t => t.seq ≠ .sIdle

/-- The costs of one action after another add up. -/
theorem Res.Costs.after {r : Res Unit} {s t : State} {c c' : Nat × Nat × Nat} (h : r.Costs t c')
    (ht : tally t.events = tally s.events + c) : r.Costs s (c + c') :=
  h.imp (fun _ u hu => by rw [hu, ht, add_assoc]) fun _ => id

theorem Res.Costs.andThen {r : Res Unit} {g : Unit → State → Res Unit} {s : State}
    {c c' : Nat × Nat × Nat} (h : r.Costs s c) (hg : ∀ t, (g () t).Costs t c') :
    (r.andThen g).Costs s (c + c') :=
  Res.Sat.andThen h fun _ t ht => (hg t).after ht

/-- What a completed tick has cost. -/
theorem Res.Costs.completed {r : Res Unit} {s t : State} {c : Nat × Nat × Nat} (h : r.Costs s c)
    (hr : r.outcome = .next t) (hq : t.seq = .sIdle) : tally t.events = tally s.events + c :=
  Res.Sat.outcome (Q := fun t => t.seq = .sIdle → tally t.events = tally s.events + c)
    (h.imp (fun _ _ ht _ => ht) fun _ hn hq => absurd hq hn) hr hq

/-- A state whose action is one Drive. -/
theorem edge_costs {s : State} {out tri : Mask} {f : State → State}
    (hf : ∀ t, (f t).events = t.events) :
    ((drive out tri s).andThen fun _ t => .goes () (f t)).Costs s (1, 0, 0) :=
  Res.Sat.andThen (P := fun _ t => t.events = s.events ++ [.drive out tri]) (drive_sat rfl nofun)
    fun _ t ht => by rw [Res.Sat, hf, ht, tally_append]; rfl

/-- An action that is one Drive, before a part of a tick that is `d` Drives. -/
theorem edge_andThen_costs {s : State} {out tri : Mask} {f : State → State}
    {g : Unit → State → Res Unit} {d : Nat} (hf : ∀ t, (f t).events = t.events)
    (hg : ∀ t, (g () t).Costs t (d, 0, 0)) :
    (((drive out tri s).andThen fun _ t => .goes () (f t)).andThen g).Costs s (d + 1, 0, 0) := by
  have hsum : ((d + 1, 0, 0) : Nat × Nat × Nat) = (1, 0, 0) + (d, 0, 0) := by simp [add_comm]
  rw [hsum]
  exact (edge_costs hf).andThen hg

theorem aHigh_costs (s : State) : (aHigh s).Costs s (1, 0, 0) := edge_costs fun _ => rfl

theorem droveSampled_tally (s : State) (out tri : Mask) :
    tally (s.droveSampled out tri).events = tally s.events + (1, 1, 0) :=
  tally_append_two _ _ _

theorem tickOpen_costs (s : State) : (tickOpen s).Costs s (1, 1, 0) :=
  (tickOpen_sat nofun nofun).imp (fun _ _ ht => ht ▸ droveSampled_tally s _ _) fun _ => id

theorem resample_costs (s : State) : (resample s).Costs s (1, 1, 0) :=
  (resample_sat nofun nofun).imp (fun _ _ ht => ht ▸ droveSampled_tally s _ _) fun _ => id

/-- No request state is followed by S_IDLE (R12). -/
theorem Acts.request_ne_sIdle {s t : State} {q : Seq} (h : Acts s q t) (hs : s.seq = q)
    (hq : q = .sRdReq ∨ q = .sWrCap) : t.seq ≠ .sIdle := by
  rcases h.seq_cases hs with hm | ⟨he, -⟩ | ⟨hw, -⟩
  · intro hi
    rw [hi] at hm
    rcases hq with rfl | rfl <;> simp [Seq.successors] at hm
  · simp [he]
  · rw [hw]
    rcases hq with rfl | rfl <;> simp

theorem rdReq_costs {s : State} (hq : s.seq = .sRdReq) : (rdReq s).Costs s (1, 0, 1) := by
  refine ((rdReq_actsAs s).and (rdReq_seq s)).imp (fun _ t ⟨h, hl⟩ => ?_)
    fun t ⟨h, _⟩ => h.request_ne_sIdle hq (.inl rfl)
  cases h with
  | accepts => exact tally_append_two _ _ _
  | readHangs => exact absurd (hq.symm.trans hl) nofun
  | edge _ ht => cases ht
  | absorbs h => simp at h
  | fails | sampleFails | violates => cases hl

theorem wrCap_costs {s : State} (hq : s.seq = .sWrCap) : (wrCap s).Costs s (0, 1, 1) := by
  have hf : tally s.forwarded.events = tally s.events + (0, 1, 1) :=
    tally_append_two _ _ _
  refine ((wrCap_actsAs s).and (wrCap_seq s)).imp (fun _ t ⟨h, hl⟩ => ?_)
    fun t ⟨h, _⟩ => h.request_ne_sIdle hq (.inr rfl)
  cases h with
  | stores => cases s.latch.space <;> exact hf
  | forwards => exact hf
  | writeHangs => exact absurd (hq.symm.trans hl) nofun
  | edge _ ht => cases ht
  | absorbs h => simp at h
  | fails | sampleFails => cases hl

/-! ## Whole ticks -/

theorem idleTail_costs (s : State) : (idleTail s).Costs s (2, 0, 0) :=
  edge_andThen_costs (fun _ => rfl) fun _ => edge_costs fun _ => rfl

/-- An idle tick: 3 Drives and 1 Sample (R122, R196). -/
theorem exec_idle_costs {low : BitVec 5} {s t : State} (h : exec (.idle low) s = .next t)
    (hq : t.seq = .sIdle) : tally t.events = tally s.events + (3, 1, 0) :=
  Res.Costs.completed ((tickOpen_costs s).andThen (c' := (2, 0, 0)) fun u =>
    idleTail_costs { u with seq := .sILow }) h hq

/-- The half-cycles before a transfer, which then begins in the state of its direction (R139). -/
theorem cycleOpen_costs (k : CycleKind) (s : State) : (cycleOpen k s).Sat
    (fun _ t => t.seq = transferEntry k.dir ∧ tally t.events = tally s.events + (3, 2, 0))
    fun t => t.seq ≠ .sIdle := by
  refine Res.Sat.andThen (tickOpen_costs s) fun _ t ht => ?_
  refine Res.Sat.andThen (P := fun _ u => tally u.events = tally s.events + (1, 1, 0)) ht
    fun _ u hu => ?_
  refine Res.Sat.andThen ((resample_costs u).after hu) fun _ v hv => ?_
  refine Res.Sat.andThen
    (P := fun _ x => x.latch.dir = k.dir ∧ tally x.events = tally s.events + (2, 2, 0))
    ⟨rfl, hv⟩ fun _ x ⟨hdir, hx⟩ => ?_
  refine ((aHigh_sat x).and ((aHigh_costs x).after hx)).imp
    (fun _ y ⟨⟨hl, hq⟩, hy⟩ => ⟨?_, hy⟩) fun _ => And.right
  rw [hq, hl, hdir]

/-- What the transfer of a direction adds to the half-cycles before it (R139). -/
def transferCost : Direction → Nat × Nat × Nat
  | .read => (4, 0, 1)
  | .write => (2, 1, 1)

theorem transferTail_costs {dir : Direction} {s : State} (h : s.seq = transferEntry dir) :
    (transferTail dir s).Costs s (transferCost dir) := by
  cases dir with
  | read =>
    exact (rdReq_costs h).andThen (c' := (3, 0, 0)) fun _ => edge_andThen_costs (fun _ => rfl)
      fun _ => edge_andThen_costs (fun _ => rfl) fun _ => edge_costs fun _ => rfl
  | write =>
    exact (wrCap_costs h).andThen (c' := (2, 0, 0)) fun _ => edge_andThen_costs (fun _ => rfl)
      fun _ => edge_costs fun _ => rfl

/-- A transfer tick: 7 Drives, 2 Samples, 1 request to read; 5, 3, 1 to write (R139, R196). -/
theorem exec_transferInstr_costs {dir : Direction} {sp : Space} {w : Width} {s t : State}
    (h : exec (transferInstr dir sp w) s = .next t) (hq : t.seq = .sIdle) :
    tally t.events = tally s.events + ((3, 2, 0) + transferCost dir) := by
  rw [exec_transferInstr] at h
  exact Res.Costs.completed ((cycleOpen_costs ⟨dir, sp, w⟩ s).andThen fun _ _ ⟨hs, hu⟩ =>
    (transferTail_costs hs).after hu) h hq

/-- Settles O48: what a completed tick adds to the tally is the tally of the events it appended. -/
theorem tickCosts : Obligations.TickCosts := by
  intro i s t h hq
  obtain ⟨es, he, -⟩ := historyGivesPads i s t h
  have hadd {c : Nat × Nat × Nat} (hc : tally t.events = tally s.events + c) : tally es = c := by
    rw [he, tally_append] at hc
    exact add_left_cancel hc
  refine ⟨es, he, ?_, ?_, ?_⟩
  · rintro ⟨low, rfl⟩
    exact tally_eq_iff.mp (hadd (exec_idle_costs h hq))
  · rintro ⟨sp, w, hi⟩
    obtain rfl : i = transferInstr .read sp w := eq_transferInstr_of_mem_readOps _ hi
    exact tally_eq_iff.mp (hadd (exec_transferInstr_costs h hq))
  · rintro ⟨sp, w, hi⟩
    obtain rfl : i = transferInstr .write sp w := eq_transferInstr_of_mem_writeOps _ hi
    exact tally_eq_iff.mp (hadd (exec_transferInstr_costs h hq))

end Sys2Proof.Machine
end
